-- ==== Sys2Proof/Word.lean ====
section
/-! DEFINITION. The widths and numberings the manual uses throughout (00_scope.md, Conventions; R183). -/

namespace Sys2Proof

/-- A byte of a frame, of a header or of a code table. -/
abbrev Byte := BitVec 8

/-- The 64 bytes of a line; byte position `n` stands in bits `8n` to `8n+7`. -/
abbrev LineData := BitVec 512

/-- A byte mask: bit `n` means byte position `n` of the line (R183). -/
abbrev ByteMask := BitVec 64

/-- A line as a four-byte field carries it (R183). Inside the part a line is a natural number. -/
abbrev LineWord := BitVec 32

/-- One 16-byte transfer of the host channel or of a plane link; byte `n` stands in bits `8n` to `8n+7` (R183). -/
abbrev Transfer := BitVec 128

/-- P0 to P3. -/
abbrev PlaneId := Fin 4

/-- A plane set: bit `n` means `Pn` is in the set (R183). -/
abbrev PlaneSet := BitVec 4

/-- A host tag, and the host position of the same number (R22). -/
abbrev Tag := Fin 32

/-- A sweep slot, and the sweep position of the same number (R22, R92). -/
abbrev SlotId := Fin 4

/-- A set of alert causes, at the bit positions of 11.5. -/
abbrev CauseSet := BitVec 7

end Sys2Proof
end

