-- ==== Sys2Proof/Config.lean ====
section
/-! DEFINITION. The sizes the one device revision fixes (00_scope.md: no options, no variants). The manual leaves no value
undefined, so there is no free value here. -/

namespace Sys2Proof.Config

/-- The last line of the largest plane size (R37, R43, R130). -/
def lastLine : Nat := 67108863

/-- Places of a plane queue (R134). -/
def queuePlaces : Nat := 16

/-- Entries of the suspect table (R125). -/
def suspectPlaces : Nat := 16

/-- Records of the divergence log (R116). -/
def logPlaces : Nat := 64

/-- Records of the completion queue (R111). -/
def completionPlaces : Nat := 4

/-- Ceiling of the overflow count and of a job's two counts (R87, R116). -/
def countCeiling : Nat := 65535

/-- Ceiling of a divergence record's repeat count (R115). -/
def repeatCeiling : Nat := 255

/-- Lines of a plane at a size code (R20). -/
def linesOf (code : Nat) : Nat := 2 ^ (20 + code)

/-- Kind code of a READ on the host channel and on a plane link (R184, R186). -/
def readCode : Byte := 0x01

/-- Kind code of a WRITE on the host channel and on a plane link (R184, R186). -/
def writeCode : Byte := 0x02

end Sys2Proof.Config
end

