-- ==== Sys2Proof/Syntax.lean ====
section
/-! DEFINITION. The commands of the part: one constructor for each row of spec/opcode_table.json. The table gives no bits, so
each constructor carries what the row's message, event or frame carries (chapters 9 to 11). -/

namespace Sys2Proof

/-- What a frame has brought by the command: its bytes, or their number. Its end has come with the command, or CS# is still low
(R166; DESIGN CHOICE, log entry 7). -/
inductive FrameSoFar (α : Type) where
  | ended (brought : α)
  | stillOpen (brought : α)
  deriving DecidableEq, Repr

/-- What the frame has brought. -/
def FrameSoFar.brought {α : Type} : FrameSoFar α → α
  | .ended x => x
  | .stillOpen x => x

/-- CS# is still low. -/
def FrameSoFar.isOpen {α : Type} : FrameSoFar α → Bool
  | .ended _ => false
  | .stillOpen _ => true

/-- The data of a WRITE request message, by the command: the message has arrived with all six of its transfers, or the first
`held + 1` of them alone are in the request assembly buffer (R152, R184; DESIGN CHOICE, log entry 7). -/
inductive DataSoFar where
  | whole (data : LineData)
  | partly (held : Fin 5) (data : LineData)
  deriving DecidableEq, Repr

/-- A command: one row of spec/opcode_table.json with its operands. -/
inductive Instr where
  /-- READ (R158): a READ request message. -/
  | read (tag : Tag) (line : LineWord)
  /-- WRITE (R158): a WRITE request message, whole or, before its arrival, partly transferred (R152). -/
  | write (tag : Tag) (line : LineWord) (mask : ByteMask) (data : DataSoFar)
  /-- UNKNOWN_KIND_DISCARD (R157): a header whose kind code names neither READ nor WRITE. -/
  | unknownKindDiscard (kind : Byte) (tag : Tag)
  /-- RESPONSE_TAKEN (R161): the host takes the last transfer of the response offered. -/
  | responseTaken
  /-- HOST_CHANNEL_RESET (R163): HRST# falls. -/
  | hostChannelReset
  /-- HRST_RISING (R164): HRST# rises. -/
  | hrstRising
  /-- POWER_ON_RESET (R165): PRST# or internal power-good goes low. -/
  | powerOnReset
  /-- LRDY_RISING (R142). -/
  | lrdyRising (plane : PlaneId)
  /-- LRDY_FALLING (R142). -/
  | lrdyFalling (plane : PlaneId)
  /-- READ_RESPONSE (R136, R186): a response message of kind READ; `data` is the data of status OK. -/
  | readResponse (plane : PlaneId) (slot : BitVec 4) (gen : BitVec 3) (status : Byte) (data : LineData)
  /-- WRITE_RESPONSE (R136, R186): a response message of kind WRITE. -/
  | writeResponse (plane : PlaneId) (slot : BitVec 4) (gen : BitVec 3) (status : Byte)
  /-- PLANE_TIMEOUT_EXPIRY (R138): the oldest op of the plane has been outstanding longer than the plane timeout. -/
  | planeTimeoutExpiry (plane : PlaneId)
  /-- ISSUE (R134): the plane's arbiter grants one op. -/
  | issue (plane : PlaneId)
  /-- GRANT (R26): the line's waiting claims are granted. -/
  | grant (line : LineWord)
  /-- HELD_BACK_CLAIM (R35): the claim held back at the host position is placed. -/
  | heldBackClaim (tag : Tag)
  /-- SWEEP_CLAIM (R92). -/
  | sweepClaim
  /-- ABORT_END (R107). -/
  | abortEnd
  /-- JOB_COMPLETE (R109). -/
  | jobComplete
  /-- ENDING_RECORD_PLACED (R112). -/
  | endingRecordPlaced
  /-- DETACH_DRAIN_END (R13). -/
  | detachDrainEnd (plane : PlaneId)
  /-- STATUS_FRAME (R169): a STATUS frame of `bytes` complete bytes, its type byte among them. With no byte it is a frame of any
  type: its start while it is open, the empty frame of R166 once it has ended. -/
  | statusFrame (bytes : FrameSoFar Nat)
  /-- RESULT_FRAME (R172): a RESULT frame of `bytes` complete bytes, its type byte among them. -/
  | resultFrame (bytes : FrameSoFar Nat)
  /-- COMPLETION_FRAME (R173): a COMPLETION frame of `bytes` complete bytes, its type byte among them. -/
  | completionFrame (bytes : FrameSoFar Nat)
  /-- FRAME_REJECTED (R167): a frame of `bytes` complete bytes whose type byte names no frame type. -/
  | frameRejected (frameType : Byte) (bytes : Nat)
  /-- UNKNOWN_COMMAND (R170): a COMMAND frame with these bytes after its type byte: none, or a code that names no command,
  or POLICY_SET with no defined selector (DESIGN CHOICE, log entry 8). A COMMAND frame still open names no command yet (R170),
  so the row is then any COMMAND frame that has brought these bytes. -/
  | unknownCommand (content : FrameSoFar (List Byte))
  /-- DEVICE_QUERY (R174); `params` are the bytes after the command code, here and below. -/
  | deviceQuery (params : List Byte)
  /-- SERVICE_SET (R19). -/
  | serviceSet (params : List Byte)
  /-- GEOMETRY_SET (R20). -/
  | geometrySet (params : List Byte)
  /-- PLANE_STATUS (R16). -/
  | planeStatus (params : List Byte)
  /-- PLANE_ADOPT (R11). -/
  | planeAdopt (params : List Byte)
  /-- PLANE_DETACH (R12). -/
  | planeDetach (params : List Byte)
  /-- PLANE_RELEASE (R14). -/
  | planeRelease (params : List Byte)
  /-- REGION_SET (R43, R44). -/
  | regionSet (params : List Byte)
  /-- REGION_GET (R45). -/
  | regionGet (params : List Byte)
  /-- POLICY_SET with selector ERROR_LIMIT (R10); `value` are the bytes after the selector, here and in the five rows below. -/
  | policySetErrorLimit (value : List Byte)
  /-- POLICY_SET with selector PLANE_TIMEOUT (R141). -/
  | policySetPlaneTimeout (value : List Byte)
  /-- POLICY_SET with selector SWEEP_SHARE (R149). -/
  | policySetSweepShare (value : List Byte)
  /-- POLICY_SET with selector LOG_MODE (R120). -/
  | policySetLogMode (value : List Byte)
  /-- POLICY_SET with selector LOG_THRESHOLD (R120). -/
  | policySetLogThreshold (value : List Byte)
  /-- POLICY_SET with selector ALERT_MASK (R178). -/
  | policySetAlertMask (value : List Byte)
  /-- POLICY_GET (R176). -/
  | policyGet (params : List Byte)
  /-- SWEEP_START (R89, R90). -/
  | sweepStart (params : List Byte)
  /-- SWEEP_ABORT (R108). -/
  | sweepAbort (params : List Byte)
  /-- SWEEP_STATUS (R113). -/
  | sweepStatus (params : List Byte)
  /-- LOG_STATUS (R121). -/
  | logStatus (params : List Byte)
  /-- LOG_PEEK (R121). -/
  | logPeek (params : List Byte)
  /-- LOG_DROP (R122). -/
  | logDrop (params : List Byte)
  /-- LOG_CLEAR (R123). -/
  | logClear (params : List Byte)
  /-- SUSPECT_READ (R129). -/
  | suspectRead (params : List Byte)
  /-- SUSPECT_CLEAR (R130). -/
  | suspectClear (params : List Byte)
  /-- SUSPECT_CLEAR_ALL (R130). -/
  | suspectClearAll (params : List Byte)
  /-- ALERT_QUERY (R180). -/
  | alertQuery (params : List Byte)
  /-- ALERT_ACK (R181). -/
  | alertAck (params : List Byte)
  /-- UNKNOWN_KIND_RESPONSE (R187): a plane response header whose kind code names neither READ nor WRITE. -/
  | unknownKindResponse (plane : PlaneId) (slot : BitVec 4) (gen : BitVec 3) (kind : Byte) (status : Byte)
  /-- POWER_ON_RESET_END (R165): PRST# rises with internal power-good high. -/
  | powerOnResetEnd
  deriving DecidableEq, Repr

end Sys2Proof
end

