-- ==== Sys2Proof/WellFormed.lean ====
section
/-! DEFINITION. Which terms of `Instr` are commands of their row. Everything a wire can carry for a row is well formed; what
belongs to another row is not. -/

namespace Sys2Proof

/-- The kind code names READ or WRITE (R184, R186). -/
def namesKind (kind : Byte) : Bool := kind == Config.readCode || kind == Config.writeCode

/-- The byte names one of the four frame types (R188, R190). -/
def namesFrameType (t : Byte) : Bool := t == 0x01 || t == 0x02 || t == 0x03 || t == 0x04

/-- The command codes of 11.5 (R189). -/
def commandCodes : List Byte :=
  [0x01, 0x10, 0x11, 0x12, 0x13, 0x14, 0x15, 0x20, 0x21, 0x30, 0x31, 0x40, 0x41, 0x42, 0x50, 0x51, 0x52, 0x53, 0x58, 0x59,
   0x5A, 0x60, 0x61]

/-- The code of POLICY_SET (R189). -/
def policySetCode : Byte := 0x30

/-- The bytes after the type byte of a COMMAND frame belong to the UNKNOWN_COMMAND row: there is no code byte, the code names
no command, or the command is POLICY_SET and no selector of the six is named (R170, R175, DESIGN CHOICE, log entry 8). -/
def isUnknownContent : List Byte → Bool
  | [] => true
  | code :: params =>
    if code = policySetCode then
      match params with
      | [] => true
      | selector :: _ => decide (5 < selector.toNat)
    else !commandCodes.contains code

/-- The term is a command of its row. -/
def WellFormed : Instr → Bool
  | .unknownKindDiscard kind _ => !namesKind kind
  | .unknownKindResponse _ _ _ kind _ => !namesKind kind
  | .readResponse _ _ _ status data => status == 0x00 || data == 0
  | .resultFrame bytes => decide (0 < bytes.brought)
  | .completionFrame bytes => decide (0 < bytes.brought)
  | .frameRejected frameType bytes => decide (0 < bytes) && !namesFrameType frameType
  | .unknownCommand content => content.isOpen || isUnknownContent content.brought
  | .read .. | .write .. | .responseTaken .. | .hostChannelReset .. | .hrstRising .. | .powerOnReset ..
  | .lrdyRising .. | .lrdyFalling .. | .writeResponse .. | .planeTimeoutExpiry .. | .issue .. | .grant ..
  | .heldBackClaim .. | .sweepClaim .. | .abortEnd .. | .jobComplete .. | .endingRecordPlaced .. | .detachDrainEnd ..
  | .statusFrame ..
  | .deviceQuery .. | .serviceSet .. | .geometrySet .. | .planeStatus .. | .planeAdopt .. | .planeDetach ..
  | .planeRelease .. | .regionSet .. | .regionGet .. | .policySetErrorLimit .. | .policySetPlaneTimeout ..
  | .policySetSweepShare .. | .policySetLogMode .. | .policySetLogThreshold .. | .policySetAlertMask ..
  | .policyGet .. | .sweepStart .. | .sweepAbort .. | .sweepStatus .. | .logStatus .. | .logPeek .. | .logDrop ..
  | .logClear .. | .suspectRead .. | .suspectClear .. | .suspectClearAll .. | .alertQuery .. | .alertAck ..
  | .powerOnResetEnd .. => true

end Sys2Proof
end

