-- ==== Sys2Proof/Decode.lean ====
section
/-! DEFINITION. From the wire to a command: requests of the host channel (R184, R185), responses of a plane link (R186, R187)
and frames of the management port (R188 to R190), each with its encoder. The opcode table gives no row any bits, so no table
word spells a command. -/

namespace Sys2Proof

/-- The command a table word spells: none, since no row of spec/opcode_table.json gives bits. -/
def decodeTableWord (_nbits _w : Nat) : Option Instr := none

/-! ## Transfers (R183) -/

/-- Byte `n` of a transfer. -/
def transferByte (t : Transfer) (n : Nat) : Byte := t.extractLsb' (8 * n) 8

/-- Four data transfers as a line: transfer `k` carries line bytes `16k` to `16k+15` (R183). -/
def lineOfTransfers (d0 d1 d2 d3 : Transfer) : LineData := d3 ++ d2 ++ d1 ++ d0

/-- A line as its four data transfers (R183). -/
def transfersOfLine (d : LineData) : List Transfer :=
  [d.extractLsb' 0 128, d.extractLsb' 128 128, d.extractLsb' 256 128, d.extractLsb' 384 128]

/-- A header: bytes 0 to 2 and the four-byte field at byte 4; the other bytes are zero (R184, R186). -/
def headerTransfer (b0 b1 b2 : Byte) (field : LineWord) : Transfer :=
  (0 : BitVec 64) ++ field ++ (0 : BitVec 8) ++ b2 ++ b1 ++ b0

/-- A mask transfer: bytes 0 to 7 the byte mask (R184, R186). -/
def maskTransfer (m : ByteMask) : Transfer := (0 : BitVec 64) ++ m

/-! ## Requests (R184, R185) -/

/-- The tag of a request header: bits 4 to 0 of byte 1 (R185). -/
def headerTag (h : Transfer) : Tag := (h.extractLsb' 8 5).toFin

/-- One request from the transfers that have arrived, with the transfers after it; none while the message is not whole (R152,
R185). -/
def decodeRequest : List Transfer → Option (Instr × List Transfer)
  | [] => none
  | h :: rest =>
    if transferByte h 0 = Config.readCode then some (.read (headerTag h) (h.extractLsb' 32 32), rest)
    else if transferByte h 0 = Config.writeCode then
      match rest with
      | m :: d0 :: d1 :: d2 :: d3 :: rest' =>
        some (.write (headerTag h) (h.extractLsb' 32 32) (m.extractLsb' 0 64) (.whole (lineOfTransfers d0 d1 d2 d3)), rest')
      | _ => none
    else some (.unknownKindDiscard (transferByte h 0) (headerTag h), rest)

/-- Header byte 1 of a request: the tag in bits 4 to 0 (R184). -/
def tagByte (tag : Tag) : Byte := BitVec.ofNat 8 tag.val

/-- The six transfers of a WRITE request (R184); the bytes not used are zero. -/
def writeTransfers (tag : Tag) (line : LineWord) (mask : ByteMask) (data : LineData) : List Transfer :=
  headerTransfer Config.writeCode (tagByte tag) 0 line :: maskTransfer mask :: transfersOfLine data

/-- The transfers of a request; none for a request that has not arrived whole, and for a command that is no request. -/
def encodeRequest : Instr → Option (List Transfer)
  | .read tag line => some [headerTransfer Config.readCode (tagByte tag) 0 line]
  | .write tag line mask (.whole data) => some (writeTransfers tag line mask data)
  | .unknownKindDiscard kind tag => some [headerTransfer kind (tagByte tag) 0 0]
  | _ => none

/-! ## Plane responses (R186, R187) -/

/-- One response from the transfers that have arrived on a plane's response path, with the transfers after it; none while the
message is not whole (R187). -/
def decodeResponse (plane : PlaneId) : List Transfer → Option (Instr × List Transfer)
  | [] => none
  | h :: rest =>
    if transferByte h 0 = Config.readCode then
      if transferByte h 2 = 0x00 then
        match rest with
        | d0 :: d1 :: d2 :: d3 :: rest' =>
          some (.readResponse plane (h.extractLsb' 8 4) (h.extractLsb' 12 3) 0x00 (lineOfTransfers d0 d1 d2 d3), rest')
        | _ => none
      else some (.readResponse plane (h.extractLsb' 8 4) (h.extractLsb' 12 3) (transferByte h 2) 0, rest)
    else if transferByte h 0 = Config.writeCode then
      some (.writeResponse plane (h.extractLsb' 8 4) (h.extractLsb' 12 3) (transferByte h 2), rest)
    else
      some (.unknownKindResponse plane (h.extractLsb' 8 4) (h.extractLsb' 12 3) (transferByte h 0) (transferByte h 2), rest)

/-- Header byte 1 of an op or a response: slot in bits 3 to 0, generation in bits 6 to 4, bit 7 zero (R186). -/
def slotByte (slot : BitVec 4) (gen : BitVec 3) : Byte := (0 : BitVec 1) ++ gen ++ slot

/-- The transfers of a plane response; none for a command that is no plane response. -/
def encodeResponse : Instr → Option (List Transfer)
  | .readResponse _ slot gen status data =>
    some (headerTransfer Config.readCode (slotByte slot gen) status 0 :: if status = 0x00 then transfersOfLine data else [])
  | .writeResponse _ slot gen status => some [headerTransfer Config.writeCode (slotByte slot gen) status 0]
  | .unknownKindResponse _ slot gen kind status => some [headerTransfer kind (slotByte slot gen) status 0]
  | _ => none

/-! ## Frames (R166, R167, R188 to R190) -/

/-- POLICY_SET by its selector byte (R189); `none` where no value is named. -/
def decodePolicySet (selector : Byte) (value : List Byte) : Option Instr :=
  match selector.toNat with
  | 0 => some (.policySetErrorLimit value)
  | 1 => some (.policySetPlaneTimeout value)
  | 2 => some (.policySetSweepShare value)
  | 3 => some (.policySetLogMode value)
  | 4 => some (.policySetLogThreshold value)
  | 5 => some (.policySetAlertMask value)
  | _ => none

/-- The command of a COMMAND frame from the bytes after its type byte (R170, R189, R190). -/
def decodeCommand : List Byte → Instr
  | [] => .unknownCommand (.ended [])
  | code :: ps =>
    match code.toNat with
    | 0x01 => .deviceQuery ps
    | 0x10 => .serviceSet ps
    | 0x11 => .geometrySet ps
    | 0x12 => .planeStatus ps
    | 0x13 => .planeAdopt ps
    | 0x14 => .planeDetach ps
    | 0x15 => .planeRelease ps
    | 0x20 => .regionSet ps
    | 0x21 => .regionGet ps
    | 0x30 =>
      match ps with
      | [] => .unknownCommand (.ended [code])
      | selector :: value => (decodePolicySet selector value).getD (.unknownCommand (.ended (code :: selector :: value)))
    | 0x31 => .policyGet ps
    | 0x40 => .sweepStart ps
    | 0x41 => .sweepAbort ps
    | 0x42 => .sweepStatus ps
    | 0x50 => .logStatus ps
    | 0x51 => .logPeek ps
    | 0x52 => .logDrop ps
    | 0x53 => .logClear ps
    | 0x58 => .suspectRead ps
    | 0x59 => .suspectClear ps
    | 0x5A => .suspectClearAll ps
    | 0x60 => .alertQuery ps
    | 0x61 => .alertAck ps
    | _ => .unknownCommand (.ended (code :: ps))

/-- The command a frame stands for, from its complete MOSI bytes; none for an empty frame, which has no effect (R166). -/
def decodeFrame : List Byte → Option Instr
  | [] => none
  | t :: rest =>
    match t.toNat with
    | 0x01 => some (.statusFrame (.ended (rest.length + 1)))
    | 0x02 => some (decodeCommand rest)
    | 0x03 => some (.resultFrame (.ended (rest.length + 1)))
    | 0x04 => some (.completionFrame (.ended (rest.length + 1)))
    | _ => some (.frameRejected t (rest.length + 1))

/-- A frame of `bytes` complete bytes that opens with type byte `t` and whose later bytes are ignored. -/
def plainFrame (t : Byte) (bytes : Nat) : List Byte := t :: List.replicate (bytes - 1) 0x00

/-- The bytes of a frame of `bytes` complete bytes that has ended; none while it is open, and none for an empty frame. -/
def endedFrame (t : Byte) : FrameSoFar Nat → Option (List Byte)
  | .ended bytes => if bytes = 0 then none else some (plainFrame t bytes)
  | .stillOpen _ => none

/-- The complete MOSI bytes of a frame that has ended; none for an empty frame and for a command that is no frame. -/
def encodeFrame : Instr → Option (List Byte)
  | .statusFrame bytes => endedFrame 0x01 bytes
  | .resultFrame bytes => endedFrame 0x03 bytes
  | .completionFrame bytes => endedFrame 0x04 bytes
  | .frameRejected t bytes => some (plainFrame t bytes)
  | .unknownCommand (.ended content) => some (0x02 :: content)
  | .deviceQuery ps => some (0x02 :: 0x01 :: ps)
  | .serviceSet ps => some (0x02 :: 0x10 :: ps)
  | .geometrySet ps => some (0x02 :: 0x11 :: ps)
  | .planeStatus ps => some (0x02 :: 0x12 :: ps)
  | .planeAdopt ps => some (0x02 :: 0x13 :: ps)
  | .planeDetach ps => some (0x02 :: 0x14 :: ps)
  | .planeRelease ps => some (0x02 :: 0x15 :: ps)
  | .regionSet ps => some (0x02 :: 0x20 :: ps)
  | .regionGet ps => some (0x02 :: 0x21 :: ps)
  | .policySetErrorLimit v => some (0x02 :: 0x30 :: 0x00 :: v)
  | .policySetPlaneTimeout v => some (0x02 :: 0x30 :: 0x01 :: v)
  | .policySetSweepShare v => some (0x02 :: 0x30 :: 0x02 :: v)
  | .policySetLogMode v => some (0x02 :: 0x30 :: 0x03 :: v)
  | .policySetLogThreshold v => some (0x02 :: 0x30 :: 0x04 :: v)
  | .policySetAlertMask v => some (0x02 :: 0x30 :: 0x05 :: v)
  | .policyGet ps => some (0x02 :: 0x31 :: ps)
  | .sweepStart ps => some (0x02 :: 0x40 :: ps)
  | .sweepAbort ps => some (0x02 :: 0x41 :: ps)
  | .sweepStatus ps => some (0x02 :: 0x42 :: ps)
  | .logStatus ps => some (0x02 :: 0x50 :: ps)
  | .logPeek ps => some (0x02 :: 0x51 :: ps)
  | .logDrop ps => some (0x02 :: 0x52 :: ps)
  | .logClear ps => some (0x02 :: 0x53 :: ps)
  | .suspectRead ps => some (0x02 :: 0x58 :: ps)
  | .suspectClear ps => some (0x02 :: 0x59 :: ps)
  | .suspectClearAll ps => some (0x02 :: 0x5A :: ps)
  | .alertQuery ps => some (0x02 :: 0x60 :: ps)
  | .alertAck ps => some (0x02 :: 0x61 :: ps)
  | _ => none

end Sys2Proof
end

