-- ==== Sys2Proof/Machine/State.lean ====
section
/-! DEFINITION. The state of the part as plain data: every register, table, queue, list, flag and pin the manual names, the
two kinds of stop, and the state after reset. A value that is a function of others (RESULT_READY, ALERT#, the level causes, a
holder's mark) is held once and computed where it is used. -/

namespace Sys2Proof.Machine

/-! ## Planes and service state (chapter 1) -/

/-- Plane states (R1). -/
inductive PlaneState where
  | offline | syncing | online | detaching | failed
  deriving DecidableEq, Repr

/-- The link field (R1). -/
inductive Link where
  | down | up
  deriving DecidableEq, Repr

/-- Failure causes (R1, R4). -/
inductive FailCause where
  | writeError | timeout | linkLost | linkFault | errorLimit
  deriving DecidableEq, Repr

/-- One plane record (R1). -/
structure PlaneRec where
  state : PlaneState
  link : Link
  errorCount : Nat
  cause : Option FailCause
  deriving DecidableEq, Repr

/-- The service state (R17). -/
inductive ServiceState where
  | halted | serving
  deriving DecidableEq, Repr

/-! ## Regions (chapter 3) -/

/-- Read modes (R37). -/
inductive ReadMode where
  | single | compare
  deriving DecidableEq, Repr

/-- Read select: FIXED carries a plane, ROTATE none (R37). -/
inductive ReadSelect where
  | rotate
  | fixed (plane : PlaneId)
  deriving DecidableEq, Repr

/-- Write acknowledgement (R37). -/
inductive WriteAck where
  | all | first
  deriving DecidableEq, Repr

/-- The five attributes (R37). -/
structure Attrs where
  readMode : ReadMode
  readSelect : ReadSelect
  repair : Bool
  ack : WriteAck
  protect : Bool
  deriving DecidableEq, Repr

/-- One of the regions 0 to 7 (R37). -/
structure Region where
  valid : Bool
  base : Nat
  limit : Nat
  attrs : Attrs
  deriving DecidableEq, Repr

/-- What the lookup copies: the matched entry's index and its five attributes (R42). -/
structure RegionCopy where
  index : Fin 9
  attrs : Attrs
  deriving DecidableEq, Repr

/-! ## Requests and their records (chapters 4, 5 and 9) -/

/-- Kinds of request (R152). -/
inductive ReqKind where
  | read | write
  deriving DecidableEq, Repr

/-- Response statuses (R153); `writeRefused` is PROTECTED. -/
inductive Status where
  | ok | recovered | poison | noPlane | outOfRange | notReady | writeRefused
  deriving DecidableEq, Repr

/-- The write record (R48). Its line, acknowledgement and region index are in the `Request` that carries it. -/
structure WriteRec where
  mask : ByteMask
  data : LineData
  writeSet : PlaneSet := 0
  outstanding : PlaneSet := 0
  endedOk : PlaneSet := 0
  endedErred : PlaneSet := 0
  endedLost : PlaneSet := 0
  withdrawn : PlaneSet := 0
  response : Option Status := none
  suspectDone : Bool := false
  orphan : Bool := false
  deriving DecidableEq, Repr

/-- The read record (R64). Its line, read mode, read select and repair are in the `Request` that carries it. -/
structure ReadRec where
  readSet : PlaneSet := 0
  tried : PlaneSet := 0
  outstanding : PlaneSet := 0
  copies : List (PlaneId × LineData) := []
  erred : PlaneSet := 0
  lost : PlaneSet := 0
  withdrawn : PlaneSet := 0
  /-- The pending READ_ERROR record, as its plane set (R82). -/
  pendingRecord : Option PlaneSet := none
  response : Option Status := none
  repairSet : PlaneSet := 0
  repairsOut : PlaneSet := 0
  orphan : Bool := false
  deriving DecidableEq, Repr

/-- The read or write record of a request that reached its claim step (R158). -/
inductive Work where
  | read (r : ReadRec)
  | write (w : WriteRec)
  deriving DecidableEq, Repr

/-- What a tag entry holds of its request (R154): `copied` from the lookup on, `work` from the claim step on. -/
structure Request where
  kind : ReqKind
  line : Nat
  copied : Option RegionCopy
  work : Option Work
  deriving DecidableEq, Repr

/-- A tag entry (R154). -/
inductive TagEntry where
  | free
  | inWork (r : Request)
  | queued (r : Request) (status : Status)
  deriving DecidableEq, Repr

/-- A response of the response queue (R152, R161). -/
structure Response where
  kind : ReqKind
  tag : Tag
  status : Status
  data : LineData
  deriving DecidableEq, Repr

/-- The last protocol error record (R160). -/
structure ProtoErr where
  tag : Tag
  kind : Byte
  deriving DecidableEq, Repr

/-! ## Line locks (chapter 2) -/

/-- Kinds of claim (R21, R23). -/
inductive ClaimKind where
  | hostRead | hostWrite | sweep
  deriving DecidableEq, Repr

/-- The 36 claimant positions (R22); they are also the owners of ops (R132). -/
inductive Claimant where
  | host (tag : Tag)
  | slot (k : SlotId)
  deriving DecidableEq, Repr

/-- A claim of a waiting list (R21). -/
structure Claim where
  pos : Claimant
  kind : ClaimKind
  deriving DecidableEq, Repr

/-- A lock entry (R21); the holder kind is present while the entry has holders. -/
structure LockEntry where
  line : Nat
  kind : Option ClaimKind
  holders : List Claimant
  waiting : List Claim
  deriving DecidableEq, Repr

/-- A claim held back at a host position (R35). -/
structure HeldClaim where
  kind : ClaimKind
  line : Nat
  deriving DecidableEq, Repr

/-- A host position: the request kept for an answered holder or an orphan (R155, R33), and the claim held back (R35). -/
structure HostPos where
  kept : Option Request
  heldBack : Option HeldClaim
  deriving DecidableEq, Repr

/-! ## Plane ports and issue arbiters (chapter 8) -/

/-- The body of an op (R132, R133). -/
inductive OpBody where
  | read
  | write (mask : ByteMask) (data : LineData)
  deriving DecidableEq, Repr

/-- An op of an issue list (R146). -/
structure Op where
  owner : Claimant
  line : Nat
  body : OpBody
  deriving DecidableEq, Repr

/-- An op of a plane queue, with what it took at its issue (R132, R134). -/
structure QueuedOp where
  op : Op
  slot : BitVec 4
  gen : BitVec 3
  issuedAt : Nat
  deriving DecidableEq, Repr

/-- A plane port with its issue arbiter (R132, R146). The port's link item is the link field of the plane record (R132). -/
structure Port where
  queue : List QueuedOp
  nextSlot : BitVec 4
  gen : BitVec 3
  hostList : List Op
  sweepList : List Op
  hostGrants : Nat
  deriving DecidableEq, Repr

/-! ## The sweep engine (chapter 6) -/

/-- Engine states (R88). -/
inductive EngineState where
  | idle | running | aborting | ending
  deriving DecidableEq, Repr

/-- Job kinds (R87). -/
inductive JobKind where
  | rebuild | fill | verify | scrub
  deriving DecidableEq, Repr

/-- Job outcomes (R87). -/
inductive JobOutcome where
  | complete | abortedCommand | abortedNoSource | abortedNoTarget | abortedSuspectFull
  deriving DecidableEq, Repr

/-- The job record (R87). -/
structure Job where
  id : BitVec 8
  kind : JobKind
  first : Nat
  last : Nat
  targets : PlaneSet
  window : Nat
  pattern : Byte
  cursor : Nat
  linesDone : Nat
  mismatches : Nat
  errors : Nat
  outcome : Option JobOutcome
  deriving DecidableEq, Repr

/-- The work of a sweep slot in flight (R92): its line, the planes tried, the reads outstanding, the copies returned, the
planes erred and lost, the target or repair writes outstanding, and whether a target write ended OK (R94). -/
structure SlotWork where
  line : Nat
  tried : PlaneSet := 0
  outstanding : PlaneSet := 0
  copies : List (PlaneId × LineData) := []
  erred : PlaneSet := 0
  lost : PlaneSet := 0
  writesOut : PlaneSet := 0
  wroteOk : Bool := false
  deriving DecidableEq, Repr

/-- A completion record (R110). -/
structure CompletionRec where
  id : BitVec 8
  kind : JobKind
  outcome : JobOutcome
  linesDone : Nat
  mismatches : Nat
  errors : Nat
  finalCursor : Nat
  deriving DecidableEq, Repr

/-- The sweep engine with its completion queue (R87, R111); `waiting` is the record an ENDING engine holds (R112). -/
structure Sweep where
  engine : EngineState
  job : Option Job
  slots : Vector (Option SlotWork) 4
  jobCounter : BitVec 8
  completions : List CompletionRec
  waiting : Option CompletionRec
  deriving DecidableEq, Repr

/-! ## The divergence log and the suspect table (chapter 7) -/

/-- Record kinds (R115). -/
inductive RecKind where
  | readError | mismatch | writeLost | writeRefused | planeFailed
  deriving DecidableEq, Repr

/-- A record's origin with the fields that are present for it: tag and region for HOST, job id for SWEEP, cause for PLANE
(R115). -/
inductive RecOrigin where
  | host (tag : Tag) (region : Fin 9)
  | sweep (job : BitVec 8)
  | plane (cause : FailCause)
  deriving DecidableEq, Repr

/-- Record outcomes (R115). -/
inductive RecOutcome where
  | served | repaired | majorityServed | unresolved | untracked | refused | lost | failed
  deriving DecidableEq, Repr

/-- What a posting block supplies (R115); the line is absent for PLANE_FAILED. -/
structure RecBody where
  kind : RecKind
  origin : RecOrigin
  line : Option Nat
  planes : PlaneSet
  outcome : RecOutcome
  deriving DecidableEq, Repr

/-- A divergence record of the log (R115). -/
structure DivRec where
  seq : BitVec 16
  body : RecBody
  repeats : Nat
  deriving DecidableEq, Repr

/-- Log modes (R116). -/
inductive LogMode where
  | keepOldest | keepNewest
  deriving DecidableEq, Repr

/-- The divergence log, oldest record first (R116). -/
structure DivLog where
  records : List DivRec
  nextSeq : BitVec 16
  overflow : Nat
  mode : LogMode
  threshold : Nat
  deriving DecidableEq, Repr

/-- Suspect reasons (R125). -/
inductive SuspectReason where
  | noMajority | noGoodCopy
  deriving DecidableEq, Repr

/-- A suspect entry (R125). -/
structure SuspectEntry where
  line : Nat
  reason : SuspectReason
  planes : PlaneSet
  deriving DecidableEq, Repr

/-! ## The management port (chapter 10) -/

/-- Result codes a command posts (R171). NONE is never posted; a RESULT frame sends it for an empty buffer (R172). -/
inductive ResultCode where
  | done | busy | badParam | badLength | conflict | linkDown | noSource | lastCopy | notRunning | stale | empty | notFound
  | unknownCommand | planeFailed
  deriving DecidableEq, Repr

/-- A result with its payload; the payload length is the payload's (R171). -/
structure Result where
  code : ResultCode
  payload : List Byte
  deriving DecidableEq, Repr

/-- What the byte complete event of a frame's type byte latched for the frame. -/
inductive Latch where
  /-- Nothing: the type byte is not complete, or the frame's type latches nothing. -/
  | nothing
  /-- The status byte as it stood (R169). -/
  | status (b : Byte)
  /-- The result buffer's content (R172). -/
  | result (r : Option Result)
  /-- The record at the head of the completion queue, or the empty indicator (R173). -/
  | completion (c : Option CompletionRec)
  deriving DecidableEq, Repr

/-- A frame in progress, so that CS# is low (R166, R182): ignored to its end, or taken, with the status byte captured at its start. -/
inductive OpenFrame where
  | ignored
  | taken (first : Byte) (latch : Latch)
  deriving DecidableEq, Repr

/-- The management port's own state (R168, R170, R172, R182); RESULT_READY is `result.isSome`. -/
structure Mgmt where
  busy : Bool
  rejected : Bool
  result : Option Result
  assembly : List Byte
  frame : Option OpenFrame
  deriving DecidableEq, Repr

/-! ## Pins and outputs -/

/-- The input pins that hold a level: PRST# (with internal power-good), HRST# and the four LRDY (11.7). -/
structure Pins where
  inReset : Bool
  hrstLow : Bool
  lrdy : Vector Bool 4
  deriving DecidableEq, Repr

/-- MODEL'S OWN (DESIGN CHOICE, log entry 15; safe: no rule reads it): what the present command made the part send. -/
structure Outputs where
  /-- The MISO bytes of the frame that has ended (R166); none for one that is ignored (DESIGN CHOICE, log entry 29). Whether MISO is
  driven is `misoDriven`. -/
  miso : List Byte := []
  /-- The response the host has taken (R161). -/
  response : Option Response := none
  /-- The op messages sent, in order, each with its plane (R134). -/
  ops : List (PlaneId × QueuedOp) := []
  deriving DecidableEq, Repr

/-! ## The state -/

/-- The state of the part. -/
structure State where
  /-- MODEL'S OWN (DESIGN CHOICE, log entry 16): the commands that wait, first in, first out. -/
  pending : List Instr
  pins : Pins
  /-- Microseconds of REFCLK (R138). -/
  now : Nat
  planes : Vector PlaneRec 4
  service : ServiceState
  geometry : Nat
  errorLimit : Nat
  regions : Vector Region 8
  defaultAttrs : Attrs
  locks : List LockEntry
  positions : Vector HostPos 32
  tags : Vector TagEntry 32
  responses : List Response
  protoErr : Option ProtoErr
  requestAssembly : List Transfer
  rotation : PlaneId
  ports : Vector Port 4
  planeTimeout : Nat
  sweepShare : Nat
  sweep : Sweep
  log : DivLog
  suspects : List SuspectEntry
  mgmt : Mgmt
  /-- The pending sticky causes (R177); the two level causes are computed. -/
  sticky : CauseSet
  alertMask : CauseSet
  out : Outputs
  deriving DecidableEq, Repr

/-! ## Stops -/

/-- Faults: none. Every error the manual describes is an effect on state (R4, R157, R167, R170), so no command stops the part;
safe. -/
inductive Fault where
  deriving DecidableEq, Repr

/-- Refusals. -/
inductive Refusal where
  /-- Raised by `exec` for a row with no meaning yet; safe. No arm raises it. -/
  | notModelled (mnemonic : String)
  /-- Raised by a meaning given a term that `WellFormed` excludes: it is no command of its row (log entry 9); safe. -/
  | notThisRow
  deriving DecidableEq, Repr

/-! ## Reset -/

/-- The attributes after power-on reset (R39). -/
def resetAttrs : Attrs := { readMode := .single, readSelect := .rotate, repair := true, ack := .all, protect := false }

/-- A region after power-on reset (R39). -/
def resetRegion : Region := { valid := false, base := 0, limit := 0, attrs := resetAttrs }

/-- A port and arbiter after power-on reset (R151). -/
def resetPort : Port := { queue := [], nextSlot := 0, gen := 0, hostList := [], sweepList := [], hostGrants := 0 }

/-- The sweep engine after power-on reset (R114). -/
def resetSweep : Sweep :=
  { engine := .idle, job := none, slots := Vector.replicate 4 none, jobCounter := 0, completions := [], waiting := none }

/-- The log after power-on reset (R124). -/
def resetLog : DivLog := { records := [], nextSeq := 0, overflow := 0, mode := .keepOldest, threshold := 48 }

/-- The machine right after power-on reset has ended (R2, R17, R20, R10, R36, R39, R69, R114, R124, R131, R151, R165, R182).
DESIGN CHOICE, unsafe (log entries 4 and 5): every LRDY is low, so every link is DOWN (R2), HRST# is high, CS# is high, so no
frame is in progress (R182), and the microsecond count is 0. -/
def State.reset : State where
  pending := []
  pins := { inReset := false, hrstLow := false, lrdy := Vector.replicate 4 false }
  now := 0
  planes := Vector.replicate 4 { state := .offline, link := .down, errorCount := 0, cause := none }
  service := .halted
  geometry := 4
  errorLimit := 16
  regions := Vector.replicate 8 resetRegion
  defaultAttrs := resetAttrs
  locks := []
  positions := Vector.replicate 32 { kept := none, heldBack := none }
  tags := Vector.replicate 32 .free
  responses := []
  protoErr := none
  requestAssembly := []
  rotation := 3
  ports := Vector.replicate 4 resetPort
  planeTimeout := 64
  sweepShare := 4
  sweep := resetSweep
  log := resetLog
  suspects := []
  mgmt := { busy := false, rejected := false, result := none, assembly := [], frame := none }
  sticky := 0
  alertMask := 0x7F
  out := {}

end Sys2Proof.Machine
end

