-- ==== Sys2Proof/Machine/Operands.lean ====
section
/-! DEFINITION. The operand forms of the management port: byte order (R183), the code tables of 11.5 (R189) and the decoding of
parameters (R190). A code function gives the code of a value; a `?` function gives the value a byte names, if any. -/

namespace Sys2Proof.Machine

/-! ## Numbers, most significant byte first (R183) -/

/-- The number two bytes carry. -/
def number2 (b1 b0 : Byte) : Nat := b1.toNat * 256 + b0.toNat

/-- The number four bytes carry. -/
def number4 (b3 b2 b1 b0 : Byte) : Nat := ((b3.toNat * 256 + b2.toNat) * 256 + b1.toNat) * 256 + b0.toNat

/-- A number in one byte. -/
def byte1 (n : Nat) : Byte := BitVec.ofNat 8 n

/-- A number in two bytes. -/
def bytes2 (n : Nat) : List Byte := [byte1 (n / 256), byte1 n]

/-- A number in four bytes. -/
def bytes4 (n : Nat) : List Byte := [byte1 (n / 16777216), byte1 (n / 65536), byte1 (n / 256), byte1 n]

/-- A plane set in a byte; bits 4 to 7 are zero (R183, R192). -/
def planesByte (g : PlaneSet) : Byte := g.setWidth 8

/-- The plane set a byte names; bits 4 to 7 name no plane (R183, R190). -/
def planesOfByte (b : Byte) : PlaneSet := b.setWidth 4

/-- A flag as code 1 or 0. -/
def flagByte (b : Bool) : Byte := if b then 1 else 0

/-! ## Values named by a parameter byte (R189, R190) -/

/-- A plane number, 0 to 3. -/
def plane? (b : Byte) : Option PlaneId := if h : b.toNat < 4 then some ⟨b.toNat, h⟩ else none

/-- A two-valued enumeration: 0 or 1. -/
def flag? (b : Byte) : Option Bool := if b = 0 then some false else if b = 1 then some true else none

/-- Read mode. -/
def readMode? (b : Byte) : Option ReadMode := if b = 0 then some .single else if b = 1 then some .compare else none

/-- Write acknowledgement. -/
def ack? (b : Byte) : Option WriteAck := if b = 0 then some .all else if b = 1 then some .first else none

/-- Job kind; code 0 is undefined in a SWEEP_START (R190). -/
def jobKind? (b : Byte) : Option JobKind :=
  match b.toNat with
  | 1 => some .rebuild
  | 2 => some .fill
  | 3 => some .verify
  | 4 => some .scrub
  | _ => none

/-! ## Codes sent (R189) -/

/-- Plane state codes. -/
def PlaneState.code : PlaneState → Byte
  | .offline => 0 | .syncing => 1 | .online => 2 | .detaching => 3 | .failed => 4

/-- Link codes. -/
def Link.code : Link → Byte
  | .down => 0 | .up => 1

/-- Failure cause codes. -/
def FailCause.code : FailCause → Byte
  | .writeError => 1 | .timeout => 2 | .linkLost => 3 | .linkFault => 4 | .errorLimit => 5

/-- The failure cause of a plane record, 0 where none is present (R192). -/
def causeCode : Option FailCause → Byte
  | none => 0 | some c => c.code

/-- Service state codes. -/
def ServiceState.code : ServiceState → Byte
  | .halted => 0 | .serving => 1

/-- Read mode codes. -/
def ReadMode.code : ReadMode → Byte
  | .single => 0 | .compare => 1

/-- Read select codes. -/
def ReadSelect.code : ReadSelect → Byte
  | .rotate => 0 | .fixed _ => 1

/-- The plane byte sent with a read select: 0 for ROTATE (R45, R192). -/
def ReadSelect.planeByte : ReadSelect → Byte
  | .rotate => 0 | .fixed p => byte1 p.val

/-- Write acknowledgement codes. -/
def WriteAck.code : WriteAck → Byte
  | .all => 0 | .first => 1

/-- Log mode codes. -/
def LogMode.code : LogMode → Byte
  | .keepOldest => 0 | .keepNewest => 1

/-- Job kind codes. -/
def JobKind.code : JobKind → Byte
  | .rebuild => 1 | .fill => 2 | .verify => 3 | .scrub => 4

/-- Engine state codes. -/
def EngineState.code : EngineState → Byte
  | .idle => 0 | .running => 1 | .aborting => 2 | .ending => 3

/-- Job outcome codes. -/
def JobOutcome.code : JobOutcome → Byte
  | .complete => 1 | .abortedCommand => 2 | .abortedNoSource => 3 | .abortedNoTarget => 4 | .abortedSuspectFull => 5

/-- The outcome of a job record, 0 where absent. -/
def outcomeCode : Option JobOutcome → Byte
  | none => 0 | some o => o.code

/-- Record kind codes. -/
def RecKind.code : RecKind → Byte
  | .readError => 1 | .mismatch => 2 | .writeLost => 3 | .writeRefused => 4 | .planeFailed => 5

/-- Record origin codes. -/
def RecOrigin.code : RecOrigin → Byte
  | .host _ _ => 1 | .sweep _ => 2 | .plane _ => 3

/-- Record outcome codes. -/
def RecOutcome.code : RecOutcome → Byte
  | .served => 1 | .repaired => 2 | .majorityServed => 3 | .unresolved => 4 | .untracked => 5 | .refused => 6 | .lost => 7
  | .failed => 8

/-- Suspect reason codes. -/
def SuspectReason.code : SuspectReason → Byte
  | .noMajority => 1 | .noGoodCopy => 2

/-- Result codes. -/
def ResultCode.code : ResultCode → Byte
  | .done => 0x00 | .busy => 0x01 | .badParam => 0x02 | .badLength => 0x03 | .conflict => 0x04 | .linkDown => 0x05
  | .noSource => 0x06 | .lastCopy => 0x07 | .notRunning => 0x08 | .stale => 0x09 | .empty => 0x0A | .notFound => 0x0B
  | .unknownCommand => 0x0C | .planeFailed => 0x0D

/-- The result code NONE of a RESULT frame with an empty buffer (R172, R189). -/
def noneCode : Byte := 0xFF

/-- Host channel status codes (R184). -/
def Status.code : Status → Byte
  | .ok => 0x00 | .recovered => 0x01 | .poison => 0x02 | .noPlane => 0x03 | .outOfRange => 0x04 | .notReady => 0x05
  | .writeRefused => 0x06

/-- Kind codes of host messages (R184). -/
def ReqKind.code : ReqKind → Byte
  | .read => Config.readCode | .write => Config.writeCode

/-- Kind codes of ops (R186). -/
def OpBody.code : OpBody → Byte
  | .read => Config.readCode | .write _ _ => Config.writeCode

end Sys2Proof.Machine
end

