-- ==== Sys2Proof/Machine/Flags.lean ====
section
/-! DEFINITION. The flags and alert causes: which are pending, ALERT#, the status byte, and whether MISO is driven (R166, R168,
R177 to R179, R188). -/

namespace Sys2Proof.Machine

/-- Alert causes as sets of one, at the bit positions of 11.5. -/
def causeCompletion : CauseSet := 0x01
/-- LOG_LEVEL. -/
def causeLogLevel : CauseSet := 0x02
/-- LOG_OVERFLOW. -/
def causeLogOverflow : CauseSet := 0x04
/-- PLANE_FAILED. -/
def causePlaneFailed : CauseSet := 0x08
/-- SERVICE_LOST. -/
def causeServiceLost : CauseSet := 0x10
/-- HOST_PROTOCOL. -/
def causeHostProtocol : CauseSet := 0x20
/-- SUSPECT_FULL. -/
def causeSuspectFull : CauseSet := 0x40

/-- The level causes whose condition holds: COMPLETION and LOG_LEVEL (R111, R119, R177). -/
def levelCauses (s : State) : CauseSet :=
  (if s.sweep.completions.isEmpty then 0 else causeCompletion) |||
  (if s.log.threshold ≤ s.log.records.length then causeLogLevel else 0)

/-- The pending alert causes (R177). -/
def pendingCauses (s : State) : CauseSet := s.sticky ||| levelCauses s

/-- ALERT# is low: a pending cause is in the alert mask (R179). -/
def alertLow (s : State) : Bool := pendingCauses s &&& s.alertMask != 0

/-- RESULT_READY (R168). -/
def resultReady (s : State) : Bool := s.mgmt.result.isSome

/-- COMPLETION_READY (R111, R168). -/
def completionReady (s : State) : Bool := !s.sweep.completions.isEmpty

/-- The status byte (R168, R188). -/
def statusByte (s : State) : Byte :=
  (0 : BitVec 2) ++ BitVec.ofBool (s.service == .serving) ++ BitVec.ofBool s.mgmt.rejected ++ BitVec.ofBool (alertLow s)
    ++ BitVec.ofBool (completionReady s) ++ BitVec.ofBool (resultReady s) ++ BitVec.ofBool s.mgmt.busy

/-- CS# is low: a frame is in progress, taken or ignored (R166). -/
def csLow (s : State) : Bool := s.mgmt.frame.isSome

/-- MISO is driven; else it is high-impedance: it is driven while CS# is low, except while PRST# or power-good is low (R166). -/
def misoDriven (s : State) : Bool := csLow s && !s.pins.inReset

/-- The host channel's request path is ready (R156). -/
def requestReady (s : State) : Bool := !s.pins.inReset && !s.pins.hrstLow

end Sys2Proof.Machine
end

