-- ==== Sys2Proof/Machine/Sets.lean ====
section
/-! DEFINITION. Plane sets and the orders on planes, tags and slots that the rules use (00_scope.md, Conventions). -/

namespace Sys2Proof.Machine

/-- P0 to P3 in ascending order. -/
def allPlanes : List PlaneId := [0, 1, 2, 3]

/-- Sweep slots 0 to 3 in ascending order. -/
def allSlots : List SlotId := [0, 1, 2, 3]

/-- Tags 0 to 31 in ascending order. -/
def allTags : List Tag := List.finRange 32

/-- The plane is in the set. -/
def inSet (g : PlaneSet) (p : PlaneId) : Bool := g.getLsbD p.val

/-- The set of one plane. -/
def onePlane (p : PlaneId) : PlaneSet := 1#4 <<< p.val

/-- The set with the plane added. -/
def addPlane (g : PlaneSet) (p : PlaneId) : PlaneSet := g ||| onePlane p

/-- The first set less the second. -/
def lessPlanes (g h : PlaneSet) : PlaneSet := g &&& ~~~h

/-- The set with the plane taken out. -/
def dropPlane (g : PlaneSet) (p : PlaneId) : PlaneSet := lessPlanes g (onePlane p)

/-- The planes with a property. -/
def planesWhere (f : PlaneId → Bool) : PlaneSet :=
  BitVec.ofBool (f 3) ++ BitVec.ofBool (f 2) ++ BitVec.ofBool (f 1) ++ BitVec.ofBool (f 0)

/-- The planes of a set in ascending order. -/
def planesOf (g : PlaneSet) : List PlaneId := allPlanes.filter (inSet g)

/-- The lowest-numbered plane of a set. -/
def lowestPlane (g : PlaneSet) : Option PlaneId := allPlanes.find? (inSet g)

/-- The planes after `p` in ascending index, with P0 following P3, ending with `p` itself. -/
def cyclicAfter (p : PlaneId) : List PlaneId := [p + 1, p + 2, p + 3, p]

/-- The first plane of a set in cyclic ascending order from `p`. -/
def nextPlane (p : PlaneId) (g : PlaneSet) : Option PlaneId := (cyclicAfter p).find? (inSet g)

end Sys2Proof.Machine
end

