-- ==== Sys2Proof/Machine/Ops.lean ====
section
/-! DEFINITION. The named operations over the state that the blocks share: reading and writing one record, queue or table
entry, posting a divergence record, adding and removing a suspect entry, producing a response, posting a result. -/

namespace Sys2Proof.Machine

/-! ## One entry of a table -/

/-- The plane record of a plane (R1). -/
def State.plane (s : State) (p : PlaneId) : PlaneRec := s.planes[p]

/-- The state with one plane record replaced. -/
def State.setPlane (s : State) (p : PlaneId) (x : PlaneRec) : State := { s with planes := s.planes.set p.val x p.isLt }

/-- The port and arbiter of a plane (R132, R146). -/
def State.port (s : State) (p : PlaneId) : Port := s.ports[p]

/-- The state with one port replaced. -/
def State.setPort (s : State) (p : PlaneId) (x : Port) : State := { s with ports := s.ports.set p.val x p.isLt }

/-- The tag entry of a tag (R154). -/
def State.tag (s : State) (t : Tag) : TagEntry := s.tags[t]

/-- The state with one tag entry replaced. -/
def State.setTag (s : State) (t : Tag) (x : TagEntry) : State := { s with tags := s.tags.set t.val x t.isLt }

/-- A host position (R22). -/
def State.position (s : State) (t : Tag) : HostPos := s.positions[t]

/-- The state with one host position replaced. -/
def State.setPosition (s : State) (t : Tag) (x : HostPos) : State :=
  { s with positions := s.positions.set t.val x t.isLt }

/-- A sweep slot (R92). -/
def State.slot (s : State) (k : SlotId) : Option SlotWork := s.sweep.slots[k]

/-- The state with one sweep slot replaced. -/
def State.setSlot (s : State) (k : SlotId) (x : Option SlotWork) : State :=
  { s with sweep := { s.sweep with slots := s.sweep.slots.set k.val x k.isLt } }

/-- The state with the job record replaced. -/
def State.setJob (s : State) (j : Job) : State := { s with sweep := { s.sweep with job := some j } }

/-- The outputs of an earlier command are gone when a command is taken (log entry 15). -/
def State.quiet (s : State) : State := { s with out := {} }

/-! ## Planes -/

/-- The planes in a state. -/
def planesIn (s : State) (x : PlaneState) : PlaneSet := planesWhere fun p => (s.plane p).state == x

/-- The ONLINE planes. -/
def onlinePlanes (s : State) : PlaneSet := planesIn s .online

/-- The plane can have ops: ONLINE, SYNCING or DETACHING (R4). -/
def PlaneState.inService : PlaneState → Bool
  | .syncing | .online | .detaching => true
  | .offline | .failed => false

/-- Some plane is ONLINE, SYNCING or DETACHING. -/
def anyInService (s : State) : Bool := allPlanes.any fun p => (s.plane p).state.inService

/-- The plane size in lines, L (R20). -/
def planeLines (s : State) : Nat := Config.linesOf s.geometry

/-! ## Alert causes -/

/-- A sticky cause becomes pending (R177). -/
def setSticky (c : CauseSet) (s : State) : State := { s with sticky := s.sticky ||| c }

/-! ## The divergence log (R115 to R118) -/

/-- Two origins are the same origin: HOST, SWEEP or PLANE (R115). -/
def sameOrigin : RecOrigin → RecOrigin → Bool
  | .host _ _, .host _ _ => true
  | .sweep _, .sweep _ => true
  | .plane _, .plane _ => true
  | _, _ => false

/-- A posted record merges into the newest record held (R117). -/
def merges (b newest : RecBody) : Bool :=
  b.kind == newest.kind && sameOrigin b.origin newest.origin && b.line == newest.line && b.kind != .planeFailed

/-- The newest record after a merge (R117). -/
def mergeInto (b : RecBody) (d : DivRec) : DivRec :=
  { d with
    body := { d.body with planes := d.body.planes ||| b.planes, outcome := b.outcome, origin := b.origin }
    repeats := min (d.repeats + 1) Config.repeatCeiling }

/-- A record appended at the tail (R118). -/
def DivLog.append (b : RecBody) (l : DivLog) : DivLog :=
  { l with records := l.records ++ [{ seq := l.nextSeq, body := b, repeats := 1 }], nextSeq := l.nextSeq + 1 }

/-- The overflow count raised by a posting that meets a full log (R118). -/
def DivLog.countOverflow (l : DivLog) : DivLog := { l with overflow := min (l.overflow + 1) Config.countCeiling }

/-- A posting met a full log (R118). -/
def DivLog.isFull (l : DivLog) : Bool := decide (Config.logPlaces ≤ l.records.length)

/-- A record that is not merged (R118). -/
def DivLog.accept (b : RecBody) (l : DivLog) : DivLog :=
  if l.isFull then
    match l.mode with
    | .keepOldest => l.countOverflow
    | .keepNewest => DivLog.append b { l.countOverflow with records := l.records.tail }
  else l.append b

/-- The newest record takes the posting, if it merges. -/
def mergedRecords (b : RecBody) (records : List DivRec) : Option (List DivRec) :=
  match records.getLast? with
  | some d => if merges b d.body then some (records.dropLast ++ [mergeInto b d]) else none
  | none => none

/-- A posting taken by the log (R117, R118); LOG_OVERFLOW is set where it met a full log. -/
def postRecord (b : RecBody) (s : State) : State :=
  match mergedRecords b s.log.records with
  | some records => { s with log := { s.log with records := records } }
  | none =>
    let s' := { s with log := s.log.accept b }
    if s.log.isFull then setSticky causeLogOverflow s' else s'

/-! ## The suspect table (R125 to R128) -/

/-- The table holds an entry for the line (R126). -/
def isSuspect (s : State) (line : Nat) : Bool := s.suspects.any fun e => e.line == line

/-- The table after an addition, or none where the addition is FULL (R127). -/
def suspectPut (e : SuspectEntry) (l : List SuspectEntry) : Option (List SuspectEntry) :=
  if l.any fun x => x.line == e.line then some (l.map fun x => if x.line == e.line then e else x)
  else if l.length < Config.suspectPlaces then some (l ++ [e])
  else none

/-- An addition (R127): the state after it and whether it was a success. SUSPECT_FULL is set where it was not. -/
def addSuspect (e : SuspectEntry) (s : State) : State × Bool :=
  match suspectPut e s.suspects with
  | some l => ({ s with suspects := l }, true)
  | none => (setSticky causeSuspectFull s, false)

/-- The outcome that an addition gives its record (R127). -/
def additionOutcome (added : Bool) : RecOutcome := if added then .unresolved else .untracked

/-- The removal of the entry for a line, if any (R128). -/
def removeSuspect (line : Nat) (s : State) : State := { s with suspects := s.suspects.filter fun e => e.line != line }

/-! ## Requests (R154, R155) -/

/-- The request of a tag entry. -/
def TagEntry.request : TagEntry → Option Request
  | .free => none
  | .inWork r => some r
  | .queued r _ => some r

/-- The tag is live (R154). -/
def TagEntry.isLive : TagEntry → Bool
  | .free => false
  | .inWork _ | .queued _ _ => true

/-- The tag entry with its request's bookkeeping changed. -/
def TagEntry.withRequest (e : TagEntry) (r : Request) : TagEntry :=
  match e with
  | .free => .free
  | .inWork _ => .inWork r
  | .queued _ st => .queued r st

/-- The attributes copied for a request; the reset attributes before any lookup. -/
def Request.attrs (r : Request) : Attrs := (r.copied.map RegionCopy.attrs).getD resetAttrs

/-- The region index copied for a request. -/
def Request.region (r : Request) : Fin 9 := (r.copied.map RegionCopy.index).getD 8

/-- The request is an orphan (R33). -/
def Request.isOrphan (r : Request) : Bool :=
  match r.work with
  | some (.read x) => x.orphan
  | some (.write x) => x.orphan
  | none => false

/-- The request with its response recorded as produced. -/
def Request.answered (r : Request) (st : Status) : Request :=
  { r with
    work := r.work.map fun w =>
      match w with
      | .read x => .read { x with response := some st }
      | .write x => .write { x with response := some st } }

/-- The request whose work stands at a host position: the kept one of an answered holder or orphan, else the tag entry's
(R48, R64, R155). -/
def requestAt (s : State) (t : Tag) : Option Request :=
  match (s.position t).kept with
  | some r => some r
  | none => (s.tag t).request

/-- The bookkeeping of the request at a host position changed. -/
def setRequest (t : Tag) (r : Request) (s : State) : State :=
  match (s.position t).kept with
  | some _ => s.setPosition t { s.position t with kept := some r }
  | none => s.setTag t ((s.tag t).withRequest r)

/-- A response is produced: it joins the response queue and its tag entry enters QUEUED (R154, R161). -/
def produce (t : Tag) (st : Status) (data : LineData) (s : State) : State :=
  match s.tag t with
  | .inWork r =>
    { s.setTag t (.queued (r.answered st) st) with
      responses := s.responses ++ [{ kind := r.kind, tag := t, status := st, data := data }] }
  | _ => s

/-- A record of origin HOST for a request (R115). -/
def hostRecord (t : Tag) (r : Request) (kind : RecKind) (planes : PlaneSet) (outcome : RecOutcome) : RecBody :=
  { kind := kind, origin := .host t r.region, line := some r.line, planes := planes, outcome := outcome }

/-! ## Results (R171) -/

/-- A result is posted: the buffer takes it and COMMAND_BUSY clears (R171). -/
def postResult (code : ResultCode) (payload : List Byte) (s : State) : State :=
  { s with mgmt := { s.mgmt with result := some { code := code, payload := payload }, busy := false } }

end Sys2Proof.Machine
end

