-- ==== Sys2Proof/Machine/Locks.lean ====
section
/-! DEFINITION. The line lock table (chapter 2): placing a claim, granting from the head of a waiting list, releasing a hold, and
what a host channel reset does to the entries. Each operation answers the table after it and the claimants it granted, in
grant order. -/

namespace Sys2Proof.Machine

/-- The lock entry of a line. -/
def lockOf (locks : List LockEntry) (line : Nat) : Option LockEntry := locks.find? fun e => e.line == line

/-- A claim joins HOST_READ holders on arrival (R24). -/
def joinsReaders (e : LockEntry) (c : Claim) : Bool :=
  c.kind == .hostRead && e.kind == some .hostRead && e.waiting.isEmpty && !e.holders.isEmpty

/-- An existing entry after a claim on its line (R24). -/
def LockEntry.arrive (e : LockEntry) (c : Claim) : LockEntry :=
  if joinsReaders e c then { e with holders := e.holders ++ [c.pos] } else { e with waiting := e.waiting ++ [c] }

/-- A claim is placed on a line (R24): the table after it, and whether the claim was granted at once. -/
def lockPlace (c : Claim) (line : Nat) : List LockEntry → List LockEntry × Bool
  | [] => ([{ line := line, kind := some c.kind, holders := [c.pos], waiting := [] }], true)
  | e :: es =>
    if e.line = line then (e.arrive c :: es, joinsReaders e c)
    else
      let r := lockPlace c line es
      (e :: r.1, r.2)

/-- An entry grants from the head of its waiting list once no holders remain (R25): the entry after it, none where it is
deleted, and the claimants granted. -/
def LockEntry.advance (e : LockEntry) : Option LockEntry × List Claimant :=
  if e.holders.isEmpty then
    match e.waiting with
    | [] => (none, [])
    | c :: cs =>
      if c.kind = .hostRead then
        let run := (c :: cs).takeWhile fun x => x.kind == .hostRead
        let rest := (c :: cs).dropWhile fun x => x.kind == .hostRead
        (some { e with kind := some .hostRead, holders := run.map Claim.pos, waiting := rest }, run.map Claim.pos)
      else (some { e with kind := some c.kind, holders := [c.pos], waiting := cs }, [c.pos])
  else (some e, [])

/-- A holder releases (R25). -/
def lockRelease (pos : Claimant) : List LockEntry → List LockEntry × List Claimant
  | [] => ([], [])
  | e :: es =>
    if e.holders.contains pos then
      let r := LockEntry.advance { e with holders := e.holders.erase pos }
      (r.1.toList ++ es, r.2)
    else
      let r := lockRelease pos es
      (e :: r.1, r.2)

/-- The entry of a line grants, if it has no holders (R25, R26). -/
def lockGrant (line : Nat) : List LockEntry → List LockEntry × List Claimant
  | [] => ([], [])
  | e :: es =>
    if e.line = line then
      let r := e.advance
      (r.1.toList ++ es, r.2)
    else
      let r := lockGrant line es
      (e :: r.1, r.2)

/-- The claim is a sweep claim (R33). -/
def Claim.isSweep (c : Claim) : Bool :=
  match c.pos with
  | .slot _ => true
  | .host _ => false

/-- An entry at a host channel reset: host waiters go, the released holders go, and an entry left with no holders grants
(R33). -/
def LockEntry.cutOff (released : Claimant → Bool) (e : LockEntry) : Option LockEntry × List Claimant :=
  LockEntry.advance { e with holders := e.holders.filter fun h => !released h, waiting := e.waiting.filter Claim.isSweep }

/-- The table at a host channel reset (R33). -/
def lockCutOff (released : Claimant → Bool) (locks : List LockEntry) : List LockEntry × List Claimant :=
  ((locks.map fun e => e.cutOff released).filterMap Prod.fst, (locks.map fun e => (e.cutOff released).2).flatten)

/-- The claimant holds a line. -/
def holdsLine (s : State) (pos : Claimant) : Bool := s.locks.any fun e => e.holders.contains pos

/-- The marks of a host holder (R21). -/
inductive HolderMark where
  | live | answered | orphan
  deriving DecidableEq, Repr

/-- The mark of a host position that holds a line (R21, R155): a kept request is an orphan's or an answered holder's. -/
def holderMark (s : State) (t : Tag) : HolderMark :=
  match (s.position t).kept with
  | none => .live
  | some r => if r.isOrphan then .orphan else .answered

end Sys2Proof.Machine
end

