-- ==== Sys2Proof/Machine/Ports.lean ====
section
/-! DEFINITION. The plane ports and issue arbiters (chapter 8): issue, the choice between the two lists, and the placing of an op
on a list with the grants that follow it. -/

namespace Sys2Proof.Machine

/-- The ends of an op (R136, R144). -/
inductive OpEnd where
  | readOk (data : LineData)
  | dataError
  | writeOk
  | writeError
  | lost
  deriving DecidableEq, Repr

/-- An op is issued (R134): it takes the next slot, the generation and the issue time, and joins the queue's tail. -/
def Port.issueOp (now : Nat) (op : Op) (q : Port) : Port :=
  { q with
    queue := q.queue ++ [{ op := op, slot := q.nextSlot, gen := q.gen, issuedAt := now }]
    nextSlot := q.nextSlot + 1 }

/-- The list a grant takes its op from (R148): `some true` host-side, `some false` sweep, `none` where both are empty. -/
def Port.choice (share : Nat) (q : Port) : Option Bool :=
  match q.hostList, q.sweepList with
  | [], [] => none
  | _ :: _, [] => some true
  | [], _ :: _ => some false
  | _ :: _, _ :: _ => some (decide (q.hostGrants < share))

/-- One grant with its issue (R134, R148): the port after it; `none` where the queue is full or both lists are empty (R147). -/
def Port.grantOne (share now : Nat) (q : Port) : Option Port :=
  if q.queue.length < Config.queuePlaces then
    match q.choice share with
    | none => none
    | some true =>
      match q.hostList with
      | [] => none
      | op :: ops =>
        some ({ q with
          hostList := ops
          hostGrants := if q.sweepList.isEmpty then q.hostGrants else q.hostGrants + 1 }.issueOp now op)
    | some false =>
      match q.sweepList with
      | [] => none
      | op :: ops => some ({ q with sweepList := ops, hostGrants := 0 }.issueOp now op)
  else none

/-- One grant of a plane's arbiter, where R147 allows one; its op message is sent on the link (R134). -/
def grantOp (p : PlaneId) (s : State) : Option State :=
  if (s.plane p).link = .up then
    match (s.port p).grantOne s.sweepShare s.now with
    | none => none
    | some q =>
      some { s.setPort p q with
        out := { s.out with ops := s.out.ops ++ (q.queue.getLast?.map fun x => (p, x)).toList } }
  else none

/-- At most `n` grants of a plane's arbiter, one after another. -/
def grantOps : Nat → PlaneId → State → State
  | 0, _, s => s
  | n + 1, p, s =>
    match grantOp p s with
    | none => s
    | some s' => grantOps n p s'

/-- The arbiter goes on granting while R147 allows it; each grant takes one op off a list. -/
def arbitrate (p : PlaneId) (s : State) : State :=
  grantOps ((s.port p).hostList.length + (s.port p).sweepList.length) p s

/-- An op joins the tail of its plane's host-side or sweep issue list by its owner, and the arbiter grants (R146, R147;
DEDUCED, log entry 14). -/
def placeOp (op : Op) (s : State) (p : PlaneId) : State :=
  let q := s.port p
  arbitrate p <| s.setPort p <|
    match op.owner with
    | .host _ => { q with hostList := q.hostList ++ [op] }
    | .slot _ => { q with sweepList := q.sweepList ++ [op] }

/-- The same op is placed on each plane of a set, in ascending order (DESIGN CHOICE, log entry 21). -/
def placeOps (op : Op) (g : PlaneSet) (s : State) : State := (planesOf g).foldl (placeOp op) s

/-- The ops of a plane in the order a flush ends them: queue oldest first, host-side list, sweep list (R144). -/
def Port.allOps (q : Port) : List Op := q.queue.map QueuedOp.op ++ q.hostList ++ q.sweepList

/-- The port after a flush (R144). -/
def Port.flushed (q : Port) : Port :=
  { queue := [], nextSlot := 0, gen := q.gen + 1, hostList := [], sweepList := [], hostGrants := 0 }

/-- The plane's queue and both lists are empty (R13). -/
def Port.isEmpty (q : Port) : Bool := q.queue.isEmpty && q.hostList.isEmpty && q.sweepList.isEmpty

/-- The op is a host-side write, the kind the drain of R107 waits for. -/
def Op.isHostWrite (op : Op) : Bool :=
  match op.owner, op.body with
  | .host _, .write _ _ => true
  | _, _ => false

/-- The instant at which the oldest op of a plane expires; none where no timer runs (R138 to R140). -/
def dueAt (s : State) (p : PlaneId) : Option Nat :=
  if (s.plane p).state.inService then (s.port p).queue.head?.map fun q => q.issuedAt + s.planeTimeout + 1 else none

/-- The oldest op of the plane has been outstanding longer than the plane timeout (R138). -/
def overdue (s : State) (p : PlaneId) : Bool :=
  match dueAt s p with
  | some d => decide (d ≤ s.now)
  | none => false

/-- The expiry of plane `p` comes before that of plane `q` (R138). -/
def expiresBefore (s : State) (p q : PlaneId) : Bool :=
  match dueAt s p, dueAt s q with
  | some d, some e => decide (d < e)
  | _, _ => false

end Sys2Proof.Machine
end

