-- ==== Sys2Proof/Machine/Acts.lean ====
section
/-! DEFINITION. The inner acts of an event. A block that finishes its part of an event answers the state and the acts that follow
from it in the same event; Events.lean performs them, the acts of an act before those that waited behind it. -/

namespace Sys2Proof.Machine

/-- An inner act of an event. -/
inductive Act where
  /-- An op's end is delivered to its owner (R136, R144). -/
  | deliver (op : Op) (plane : PlaneId) (e : OpEnd)
  /-- A grant is delivered to the claimant's owner, which begins its work (R26). -/
  | start (pos : Claimant)
  /-- A holder releases its line (R25, R27 to R29). -/
  | release (pos : Claimant)
  /-- A claim is placed on a line (R23, R24). -/
  | place (pos : Claimant) (kind : ClaimKind) (line : Nat)
  /-- The claim held back at a host position is placed, once no kept request holds the position (R35). -/
  | placeHeld (tag : Tag)
  /-- The sweep engine places claims as its window allows (R92). -/
  | sweepPlace
  /-- The sweep engine tests for the end of a RUNNING job (R94, R109). -/
  | sweepTest
  deriving DecidableEq, Repr

/-- What a block answers: the state and the acts that follow in the same event. -/
abbrev Effect := State × List Act

end Sys2Proof.Machine
end

