-- ==== Sys2Proof/Machine/Distributor.lean ====
section
/-! DEFINITION. The write distributor (chapter 4): the write set and the settlement at grant, and what each op end does. -/

namespace Sys2Proof.Machine

/-- The full byte mask. -/
def fullMask : ByteMask := BitVec.allOnes 64

/-- The sweep cursor is above the line while the engine is RUNNING (R51). -/
def cursorPassed (s : State) (line : Nat) : Bool :=
  s.sweep.engine == .running &&
    match s.sweep.job with
    | some j => decide (line < j.cursor)
    | none => false

/-- The write set of a WRITE granted now (R51). -/
def writeSet (s : State) (line : Nat) : PlaneSet :=
  planesWhere fun p => (s.plane p).state == .online || ((s.plane p).state == .syncing && cursorPassed s line)

/-- A request with its write record changed. -/
def Request.withWrite (r : Request) (w : WriteRec) : Request := { r with work := some (.write w) }

/-- A WRITE is granted its line (R51 to R53). -/
def startWrite (t : Tag) (r : Request) (w : WriteRec) (s : State) : Effect :=
  let g := writeSet s r.line
  let s1 := setRequest t (r.withWrite { w with writeSet := g }) s
  if g = 0 then (produce t .noPlane 0 s1, [.release (.host t)])
  else if w.mask = 0 then (produce t .ok 0 s1, [.release (.host t)])
  else
    (placeOps { owner := .host t, line := r.line, body := .write w.mask w.data } g
      (setRequest t (r.withWrite { w with writeSet := g, outstanding := g }) s), [])

/-- The write record after an op end (R54). -/
def WriteRec.ended (w : WriteRec) (p : PlaneId) (e : OpEnd) : WriteRec :=
  let w1 := { w with outstanding := dropPlane w.outstanding p }
  match e with
  | .writeOk => { w1 with endedOk := addPlane w.endedOk p }
  | .writeError => { w1 with endedErred := addPlane w.endedErred p }
  | .lost => { w1 with endedLost := addPlane w.endedLost p }
  | .readOk _ | .dataError => w

/-- This end takes the suspect removal of R59: the first OK end of a full-mask WRITE. -/
def removesSuspect (w : WriteRec) (e : OpEnd) : Bool := e == .writeOk && w.mask == fullMask && !w.suspectDone

/-- The status that an end settles, if it settles one (R57, R58). -/
def writeStatus (ack : WriteAck) (w : WriteRec) (e : OpEnd) : Option Status :=
  match ack with
  | .first =>
    if e = .writeOk then some .ok
    else if w.outstanding = 0 ∧ w.endedOk = 0 then some .noPlane
    else none
  | .all =>
    if w.outstanding = 0 then
      if w.endedOk = 0 then some .noPlane
      else if w.endedErred = 0 ∧ w.endedLost = 0 then some .ok
      else some .recovered
    else none

/-- The response of a WRITE at an op end: none for an orphan or a WRITE already answered (R54, R34, R155). -/
def answerWrite (t : Tag) (r : Request) (w : WriteRec) (e : OpEnd) (s : State) : State :=
  if w.response = none ∧ w.orphan = false then
    match writeStatus r.attrs.ack w e with
    | some st => produce t st 0 s
    | none => s
  else s

/-- A host write op ends (R54 to R59): record, suspect removal or WRITE_LOST, response, then release. -/
def endWrite (t : Tag) (r : Request) (w : WriteRec) (p : PlaneId) (e : OpEnd) (s : State) : Effect :=
  let removes := removesSuspect w e
  let w1 := { w.ended p e with suspectDone := w.suspectDone || removes }
  let s1 := setRequest t (r.withWrite w1) s
  let s2 := if removes then removeSuspect r.line s1 else s1
  let s3 := if e = .writeOk then s2 else postRecord (hostRecord t r .writeLost (onePlane p) .lost) s2
  (answerWrite t r w1 e s3, if w1.outstanding = 0 then [.release (.host t)] else [])

end Sys2Proof.Machine
end

