-- ==== Sys2Proof/Machine/Resolver.lean ====
section
/-! DEFINITION. The read resolver (chapter 5): grant, failover, vote, repair and records. The vote is shared with the sweep
engine (R100). -/

namespace Sys2Proof.Machine

/-! ## The vote (R76, R77) -/

/-- The planes that returned a copy, G (R64). -/
def copyPlanes (copies : List (PlaneId × LineData)) : PlaneSet := copies.foldl (fun g c => addPlane g c.1) 0

/-- The planes whose copy equals `d`. -/
def groupOf (copies : List (PlaneId × LineData)) (d : LineData) : PlaneSet :=
  copyPlanes (copies.filter fun c => c.2 == d)

/-- The copy of the group that holds more than half of the copies, if one does (R77). -/
def majorityCopy (copies : List (PlaneId × LineData)) : Option LineData :=
  (copies.find? fun c => decide (copies.length < 2 * (copies.filter fun x => x.2 == c.2).length)).map Prod.snd

/-- The outcome of a vote (R76). -/
inductive Vote where
  /-- No copy and no error. -/
  | nothing
  /-- No copy and at least one error. -/
  | noGoodCopy
  /-- One group. -/
  | agreed (d : LineData)
  /-- Several groups, one of them a majority. -/
  | majority (d : LineData) (minority : PlaneSet)
  /-- Several groups, no majority. -/
  | split
  deriving DecidableEq, Repr

/-- The vote on the copies returned, with the planes that erred (R76). -/
def vote (copies : List (PlaneId × LineData)) (erred : PlaneSet) : Vote :=
  match copies with
  | [] => if erred = 0 then .nothing else .noGoodCopy
  | c :: _ =>
    if copies.all fun x => x.2 == c.2 then .agreed c.2
    else
      match majorityCopy copies with
      | some d => .majority d (lessPlanes (copyPlanes copies) (groupOf copies d))
      | none => .split

/-! ## Settling a READ -/

/-- A request with its read record changed. -/
def Request.withRead (r : Request) (x : ReadRec) : Request := { r with work := some (.read x) }

/-- The full-line write of a copy (R79, R96, R102). -/
def copyWrite (owner : Claimant) (line : Nat) (d : LineData) : Op :=
  { owner := owner, line := line, body := .write fullMask d }

/-- The planes that receive a repair write: the candidates that are ONLINE now, where the status is RECOVERED and repair is ON
(R79). -/
def repairPlanes (s : State) (r : Request) (st : Status) (candidates : PlaneSet) : PlaneSet :=
  if st = .recovered ∧ r.attrs.repair = true then candidates &&& onlinePlanes s else 0

/-- A READ is answered with a copy (R71, R76, R78, R79): response, repair writes, record, and release where no repair is
issued. A record is posted where `planes` is not empty. -/
def serve (t : Tag) (r : Request) (x : ReadRec) (d : LineData) (st : Status) (kind : RecKind) (planes : PlaneSet)
    (s : State) : Effect :=
  let repairs := repairPlanes s r st planes
  let x1 := { x with response := some st, repairSet := repairs, repairsOut := repairs, pendingRecord := none }
  let s1 := setRequest t (r.withRead x1) (produce t st d s)
  let s2 := placeOps (copyWrite (.host t) r.line d) repairs s1
  let unrepaired := if kind = .mismatch then RecOutcome.majorityServed else RecOutcome.served
  let s3 :=
    if planes = 0 then s2
    else postRecord (hostRecord t r kind planes (if repairs = 0 then unrepaired else .repaired)) s2
  (s3, if repairs = 0 then [.release (.host t)] else [])

/-- A READ is answered POISON (R74, R76, R78, R81 to R83): response, suspect entry, record, release. -/
def poison (t : Tag) (r : Request) (x : ReadRec) (reason : SuspectReason) (suspectPlanes : PlaneSet) (kind : RecKind)
    (planes : PlaneSet) (s : State) : Effect :=
  let x1 := { x with response := some .poison, pendingRecord := none }
  let s1 := setRequest t (r.withRead x1) (produce t .poison 0 s)
  let a := addSuspect { line := r.line, reason := reason, planes := suspectPlanes } s1
  (postRecord (hostRecord t r kind planes (additionOutcome a.2)) a.1, [.release (.host t)])

/-- A READ is answered NO_PLANE (R67, R74, R76). -/
def readNoPlane (t : Tag) (s : State) : Effect := (produce t .noPlane 0 s, [.release (.host t)])

/-! ## Grant (R66 to R70, R75) -/

/-- The first plane of a SINGLE READ (R68, R69). -/
def firstPlane (s : State) (select : ReadSelect) (readSet : PlaneSet) : Option PlaneId :=
  match select with
  | .fixed p => if inSet readSet p then some p else lowestPlane readSet
  | .rotate => nextPlane s.rotation readSet

/-- The rotation pointer moves to the plane a ROTATE choice took (R69). -/
def rotateTo (select : ReadSelect) (p : PlaneId) (s : State) : State :=
  match select with
  | .rotate => { s with rotation := p }
  | .fixed _ => s

/-- A SINGLE READ asks a plane (R70). -/
def askPlane (t : Tag) (r : Request) (x : ReadRec) (p : PlaneId) (s : State) : State :=
  placeOp { owner := .host t, line := r.line, body := .read }
    (setRequest t (r.withRead { x with tried := addPlane x.tried p, outstanding := addPlane x.outstanding p }) s) p

/-- A READ is granted its line (R66 to R70, R75). -/
def startRead (t : Tag) (r : Request) (x : ReadRec) (s : State) : Effect :=
  if isSuspect s r.line then (produce t .poison 0 s, [.release (.host t)])
  else
    let g := onlinePlanes s
    let x1 := { x with readSet := g }
    if g = 0 then readNoPlane t (setRequest t (r.withRead x1) s)
    else
      match r.attrs.readMode with
      | .single =>
        match firstPlane s r.attrs.readSelect g with
        | some p => (askPlane t r x1 p (rotateTo r.attrs.readSelect p s), [])
        | none => readNoPlane t (setRequest t (r.withRead x1) s)
      | .compare =>
        (placeOps { owner := .host t, line := r.line, body := .read } g
          (setRequest t (r.withRead { x1 with tried := g, outstanding := g }) s), [])

/-! ## Op ends -/

/-- The pending READ_ERROR record with one plane more (R72, R75, R82). -/
def growPending (x : ReadRec) (p : PlaneId) : Option PlaneSet := some (addPlane (x.pendingRecord.getD 0) p)

/-- The read record after a read end (R71 to R73, R75, R85). -/
def ReadRec.ended (x : ReadRec) (p : PlaneId) (e : OpEnd) : ReadRec :=
  let x1 := { x with outstanding := dropPlane x.outstanding p }
  match e with
  | .readOk d => { x1 with copies := x.copies ++ [(p, d)] }
  | .dataError => { x1 with erred := addPlane x.erred p, pendingRecord := growPending x p }
  | .lost => { x1 with lost := addPlane x.lost p }
  | .writeOk | .writeError => x

/-- A SINGLE READ chooses its next plane after an error or a loss, or settles (R72 to R74). -/
def failOver (t : Tag) (r : Request) (x : ReadRec) (p : PlaneId) (s : State) : Effect :=
  match nextPlane p (lessPlanes (x.readSet &&& onlinePlanes s) x.tried) with
  | some q => (askPlane t r x q s, [])
  | none =>
    if x.erred = 0 then readNoPlane t (setRequest t (r.withRead x) s)
    else poison t r x .noGoodCopy x.erred .readError x.erred s

/-- A live SINGLE READ takes a read end (R71 to R74). -/
def endSingle (t : Tag) (r : Request) (x : ReadRec) (p : PlaneId) (e : OpEnd) (s : State) : Effect :=
  match e with
  | .readOk d => serve t r x d (if x.erred = 0 ∧ x.lost = 0 then .ok else .recovered) .readError x.erred s
  | _ => failOver t r x p s

/-- A live COMPARE READ at its last read end (R76, R78). -/
def settleCompare (t : Tag) (r : Request) (x : ReadRec) (s : State) : Effect :=
  match vote x.copies x.erred with
  | .nothing => readNoPlane t (setRequest t (r.withRead x) s)
  | .noGoodCopy => poison t r x .noGoodCopy x.erred .readError x.erred s
  | .agreed d => serve t r x d (if x.erred = 0 then .ok else .recovered) .readError x.erred s
  | .majority d minority => serve t r x d .recovered .mismatch (minority ||| x.erred) s
  | .split => poison t r x .noMajority (copyPlanes x.copies) .mismatch (copyPlanes x.copies ||| x.erred) s

/-- An orphan READ with no op left posts its pending record, if one is due (R82, R85). -/
def postPending (t : Tag) (r : Request) (x : ReadRec) (s : State) : State :=
  match x.pendingRecord with
  | some g => postRecord (hostRecord t r .readError g .unresolved) s
  | none => s

/-- A READ's read op ends (R71 to R76, R85). -/
def endRead (t : Tag) (r : Request) (x : ReadRec) (p : PlaneId) (e : OpEnd) (s : State) : Effect :=
  let x1 := x.ended p e
  if x.orphan then
    if x1.outstanding = 0 ∧ x1.repairsOut = 0 then
      (postPending t r x1 (setRequest t (r.withRead x1) s), [.release (.host t)])
    else (setRequest t (r.withRead x1) s, [])
  else
    match r.attrs.readMode with
    | .single => endSingle t r x1 p e s
    | .compare =>
      if x1.outstanding = 0 then settleCompare t r x1 s else (setRequest t (r.withRead x1) s, [])

/-- A READ's repair write ends (R80). -/
def endRepair (t : Tag) (r : Request) (x : ReadRec) (p : PlaneId) (s : State) : Effect :=
  let x1 := { x with repairsOut := dropPlane x.repairsOut p }
  (setRequest t (r.withRead x1) s,
    if x1.repairsOut = 0 ∧ x1.outstanding = 0 then [.release (.host t)] else [])

end Sys2Proof.Machine
end

