-- ==== Sys2Proof/Machine/Engine.lean ====
section
/-! DEFINITION. The sweep engine (chapter 6): placing claims, the work of a granted line by job kind, its op ends, the finish of a
line, aborts, and the end of a job with its completion record. -/

namespace Sys2Proof.Machine

/-! ## The job and its slots -/

/-- A count raised by one, to its ceiling (R87). -/
def countUp (n : Nat) : Nat := min (n + 1) Config.countCeiling

/-- The slots in flight (R92). -/
def slotsInFlight (s : State) : List SlotId := allSlots.filter fun k => (s.slot k).isSome

/-- No slot is in flight. -/
def noSlotInFlight (s : State) : Bool := (slotsInFlight s).isEmpty

/-- The lowest-numbered free slot (R92). -/
def freeSlot (s : State) : Option SlotId := allSlots.find? fun k => (s.slot k).isNone

/-- The job's targets that are still SYNCING (R87, R96). -/
def syncingTargets (s : State) (j : Job) : PlaneSet := j.targets &&& planesIn s .syncing

/-- The engine state changes. -/
def setEngine (e : EngineState) (s : State) : State := { s with sweep := { s.sweep with engine := e } }

/-- An abort cause reaches the engine (R106): RUNNING becomes ABORTING with the cause's outcome; no other state changes. -/
def enterAborting (o : JobOutcome) (s : State) : State :=
  if s.sweep.engine = .running then
    match s.sweep.job with
    | some j => setEngine .aborting (s.setJob { j with outcome := some o })
    | none => setEngine .aborting s
  else s

/-- A record of origin SWEEP for a line of the job (R98, R101, R102). -/
def sweepRecord (j : Job) (line : Nat) (kind : RecKind) (planes : PlaneSet) (outcome : RecOutcome) : RecBody :=
  { kind := kind, origin := .sweep j.id, line := some line, planes := planes, outcome := outcome }

/-! ## Placing claims (R92) -/

/-- One placement, where R92 allows one: the lowest free slot takes the cursor line and the cursor advances. -/
def placeNext (s : State) : Effect :=
  match s.sweep.engine, s.sweep.job, freeSlot s with
  | .running, some j, some k =>
    if j.cursor ≤ j.last ∧ (slotsInFlight s).length < j.window then
      ((s.setSlot k (some { line := j.cursor })).setJob { j with cursor := j.cursor + 1 },
        [.place (.slot k) .sweep j.cursor, .sweepPlace])
    else (s, [])
  | _, _, _ => (s, [])

/-! ## Finishing a line (R94) -/

/-- A slot's line is finished: it is counted if its work was completed, the slot releases, and the engine places claims and tests
for the end of the job. -/
def finishLine (k : SlotId) (completed : Bool) (s : State) : Effect :=
  let s1 :=
    if completed then
      match s.sweep.job with
      | some j => s.setJob { j with linesDone := j.linesDone + 1 }
      | none => s
    else s
  (s1, [.release (.slot k), .sweepPlace, .sweepTest])

/-! ## REBUILD and FILL -/

/-- A line is written to the targets that are SYNCING now (R96, R99); with none the line is finished. -/
def writeTargets (k : SlotId) (w : SlotWork) (j : Job) (d : LineData) (s : State) : Effect :=
  let g := syncingTargets s j
  if g = 0 then finishLine k false (s.setSlot k (some w))
  else (placeOps (copyWrite (.slot k) w.line d) g (s.setSlot k (some { w with writesOut := g })), [])

/-- A REBUILD line with no good copy (R97, R98). -/
def noGoodSource (k : SlotId) (w : SlotWork) (j : Job) (s : State) : Effect :=
  let a := addSuspect { line := w.line, reason := .noGoodCopy, planes := w.erred } (s.setSlot k (some w))
  let s1 := postRecord (sweepRecord j w.line .readError w.erred (additionOutcome a.2)) a.1
  finishLine k true (if a.2 then s1 else enterAborting .abortedSuspectFull s1)

/-- A REBUILD line chooses its source: the lowest-numbered ONLINE plane not yet tried (R95). -/
def chooseSource (k : SlotId) (w : SlotWork) (j : Job) (s : State) : Effect :=
  match lowestPlane (lessPlanes (onlinePlanes s) w.tried) with
  | some p =>
    (placeOp { owner := .slot k, line := w.line, body := .read }
      (s.setSlot k (some { w with tried := addPlane w.tried p, outstanding := onePlane p })) p, [])
  | none => if w.erred = 0 then finishLine k false (s.setSlot k (some w)) else noGoodSource k w j s

/-- A REBUILD line's copy has arrived (R96, R98). -/
def copyArrived (k : SlotId) (w : SlotWork) (j : Job) (d : LineData) (s : State) : Effect :=
  let s1 := if w.erred = 0 then s else postRecord (sweepRecord j w.line .readError w.erred .served) s
  writeTargets k w j d s1

/-! ## VERIFY and SCRUB -/

/-- The line's repair set (R102): the candidates ONLINE now for a SCRUB; VERIFY repairs nothing (R101). -/
def scrubPlanes (s : State) (j : Job) (candidates : PlaneSet) : PlaneSet :=
  if j.kind = .scrub then candidates &&& onlinePlanes s else 0

/-- A line with an agreed copy (R101, R102): repairs, record, and the finish where nothing is repaired. -/
def settleAgreed (k : SlotId) (w : SlotWork) (j : Job) (d : LineData) (kind : RecKind) (planes : PlaneSet) (s : State) :
    Effect :=
  let repairs := scrubPlanes s j planes
  let s1 := placeOps (copyWrite (.slot k) w.line d) repairs (s.setSlot k (some { w with writesOut := repairs }))
  let unrepaired := if kind = .mismatch then RecOutcome.majorityServed else RecOutcome.served
  let s2 :=
    if planes = 0 then s1
    else postRecord (sweepRecord j w.line kind planes (if repairs = 0 then unrepaired else .repaired)) s1
  if repairs = 0 then finishLine k true s2 else (s2, [])

/-- A line with no copy to be trusted (R101, R102): a SCRUB adds a suspect entry, a VERIFY does not. -/
def settleDistrusted (k : SlotId) (w : SlotWork) (j : Job) (reason : SuspectReason) (suspectPlanes : PlaneSet)
    (kind : RecKind) (planes : PlaneSet) (s : State) : Effect :=
  let s1 := s.setSlot k (some w)
  if j.kind = .scrub then
    let a := addSuspect { line := w.line, reason := reason, planes := suspectPlanes } s1
    finishLine k true (postRecord (sweepRecord j w.line kind planes (additionOutcome a.2)) a.1)
  else finishLine k true (postRecord (sweepRecord j w.line kind planes .unresolved) s1)

/-- The job's mismatch count rises by one (R100). -/
def countMismatch (s : State) : State :=
  match s.sweep.job with
  | some j => s.setJob { j with mismatches := countUp j.mismatches }
  | none => s

/-- A VERIFY or SCRUB line votes (R100 to R102). -/
def settleVote (k : SlotId) (w : SlotWork) (j : Job) (s : State) : Effect :=
  match vote w.copies w.erred with
  | .nothing => finishLine k false (s.setSlot k (some w))
  | .noGoodCopy => settleDistrusted k w j .noGoodCopy w.erred .readError w.erred s
  | .agreed d => settleAgreed k w j d .readError w.erred s
  | .majority d minority => settleAgreed k w j d .mismatch (minority ||| w.erred) (countMismatch s)
  | .split =>
    settleDistrusted k w j .noMajority (copyPlanes w.copies) .mismatch (copyPlanes w.copies ||| w.erred) (countMismatch s)

/-- A VERIFY or SCRUB line is granted (R100). -/
def startCompare (k : SlotId) (w : SlotWork) (s : State) : Effect :=
  if isSuspect s w.line then finishLine k true s
  else
    let g := onlinePlanes s
    if g = 0 then finishLine k false s
    else
      (placeOps { owner := .slot k, line := w.line, body := .read } g
        (s.setSlot k (some { w with tried := g, outstanding := g })), [])

/-! ## Grant and op ends of a slot -/

/-- A sweep claim is granted (R93). -/
def startSlot (k : SlotId) (s : State) : Effect :=
  match s.slot k, s.sweep.job with
  | some w, some j =>
    match j.kind with
    | .rebuild =>
      if onlinePlanes s = 0 ∨ syncingTargets s j = 0 then finishLine k false s else chooseSource k w j s
    | .fill => writeTargets k w j (j.pattern.replicate 64) s
    | .verify | .scrub => startCompare k w s
  | _, _ => (s, [])

/-- The slot's work after a read end (R95, R100). -/
def SlotWork.ended (w : SlotWork) (p : PlaneId) (e : OpEnd) : SlotWork :=
  let w1 := { w with outstanding := dropPlane w.outstanding p }
  match e with
  | .readOk d => { w1 with copies := w.copies ++ [(p, d)] }
  | .dataError => { w1 with erred := addPlane w.erred p }
  | .lost => { w1 with lost := addPlane w.lost p }
  | .writeOk | .writeError => w

/-- The first DATA_ERROR of a line raises the job's error count (R95, R100). -/
def countError (w : SlotWork) (j : Job) (e : OpEnd) : Job :=
  if e = .dataError ∧ w.erred = 0 then { j with errors := countUp j.errors } else j

/-- A slot's read op ends (R95, R100). -/
def endSlotRead (k : SlotId) (w : SlotWork) (j : Job) (p : PlaneId) (e : OpEnd) (s : State) : Effect :=
  let w1 := w.ended p e
  let j1 := countError w j e
  let s1 := s.setJob j1
  match j.kind with
  | .rebuild | .fill =>
    match e with
    | .readOk d => copyArrived k w1 j1 d s1
    | _ => chooseSource k w1 j1 s1
  | .verify | .scrub =>
    if w1.outstanding = 0 then settleVote k w1 j1 s1 else (s1.setSlot k (some w1), [])

/-- The line's work was completed when its last write ended (R94): a target write ended OK, or it is a SCRUB line, which has a
copy. -/
def writesCompleted (j : Job) (w : SlotWork) : Bool :=
  match j.kind with
  | .rebuild | .fill => w.wroteOk
  | .verify | .scrub => true

/-- A slot's target write or repair write ends (R96, R99, R102). -/
def endSlotWrite (k : SlotId) (w : SlotWork) (j : Job) (p : PlaneId) (e : OpEnd) (s : State) : Effect :=
  let w1 := { w with writesOut := dropPlane w.writesOut p, wroteOk := w.wroteOk || e == .writeOk }
  let s1 := s.setSlot k (some w1)
  if w1.writesOut = 0 then finishLine k (writesCompleted j w1) s1 else (s1, [])

/-! ## The end of a job (R107, R109, R110) -/

/-- Every target still SYNCING has no host write op on its host-side list and none in its queue (R107). -/
def targetsDrained (s : State) (j : Job) : Bool :=
  (planesOf (syncingTargets s j)).all fun p =>
    !((s.port p).hostList.any Op.isHostWrite) && !((s.port p).queue.any fun q => q.op.isHostWrite)

/-- A target still SYNCING leaves SYNCING at the job's end (R15). -/
def leaveSyncing (complete : Bool) (s : State) (p : PlaneId) : State :=
  let r := s.plane p
  if complete then s.setPlane p { r with state := .online, errorCount := 0 } else s.setPlane p { r with state := .offline }

/-- The completion record of a job (R110). -/
def completionOf (j : Job) (o : JobOutcome) : CompletionRec :=
  { id := j.id, kind := j.kind, outcome := o, linesDone := j.linesDone, mismatches := j.mismatches, errors := j.errors,
    finalCursor := j.cursor }

/-- The completion record joins the queue, or waits while the engine is ENDING (R110). -/
def storeCompletion (c : CompletionRec) (s : State) : State :=
  if s.sweep.completions.length < Config.completionPlaces then
    { s with sweep := { s.sweep with completions := s.sweep.completions ++ [c], engine := .idle } }
  else { s with sweep := { s.sweep with waiting := some c, engine := .ending } }

/-- The job ends with an outcome: targets first, then the record (R15, R109, R107, R110). -/
def endJob (j : Job) (o : JobOutcome) (s : State) : State :=
  let s1 := (planesOf (syncingTargets s j)).foldl (leaveSyncing (o == .complete)) s
  storeCompletion (completionOf j o) (s1.setJob { j with outcome := some o })

/-- A RUNNING job whose cursor is above last, with no slot in flight, ends COMPLETE (R109). The test is made at the release of a
slot (R94; DEDUCED, log entry 11). -/
def completeJob (s : State) : State :=
  match s.sweep.engine, s.sweep.job with
  | .running, some j => if j.last < j.cursor ∧ noSlotInFlight s = true then endJob j .complete s else s
  | _, _ => s

/-- An ABORTING job ends with the outcome it took on entry, once no slot is in flight and its SYNCING targets are drained
(R106, R107). The test is made at the end of an event, after the failure that an op end brings (R5; DEDUCED, log entry 12). -/
def endAbort (s : State) : State :=
  match s.sweep.engine, s.sweep.job with
  | .aborting, some j =>
    match j.outcome with
    | some o => if noSlotInFlight s = true ∧ targetsDrained s j = true then endJob j o s else s
    | none => s
  | _, _ => s

/-- The waiting record of an ENDING engine joins a queue with room, and the engine becomes IDLE (R112). -/
def placeWaiting (s : State) : State :=
  match s.sweep.engine, s.sweep.waiting with
  | .ending, some c =>
    if s.sweep.completions.length < Config.completionPlaces then
      { s with sweep := { s.sweep with completions := s.sweep.completions ++ [c], waiting := none, engine := .idle } }
    else s
  | _, _ => s

end Sys2Proof.Machine
end

