-- ==== Sys2Proof/Machine/Events.lean ====
section
/-! DEFINITION. One event of the part: the performing of inner acts, the failure of a plane (R6), a plane's response (R135 to
R137), and the two drains that are tested at the end of an event (R13, R107). -/

namespace Sys2Proof.Machine

/-! ## Performing acts -/

/-- An op's end reaches its owner (R136): the record of a host position or the work of a sweep slot. -/
def deliverEnd (op : Op) (p : PlaneId) (e : OpEnd) (s : State) : Effect :=
  match op.owner with
  | .host t =>
    match requestAt s t with
    | some r =>
      match r.work, op.body with
      | some (.write w), _ => endWrite t r w p e s
      | some (.read x), .read => endRead t r x p e s
      | some (.read x), .write _ _ => endRepair t r x p s
      | none, _ => (s, [])
    | none => (s, [])
  | .slot k =>
    match s.slot k, s.sweep.job with
    | some w, some j =>
      match op.body with
      | .read => endSlotRead k w j p e s
      | .write _ _ => endSlotWrite k w j p e s
    | _, _ => (s, [])

/-- A grant reaches the claimant's owner (R26). -/
def startWork (pos : Claimant) (s : State) : Effect :=
  match pos with
  | .host t =>
    match requestAt s t with
    | some r =>
      match r.work with
      | some (.write w) => startWrite t r w s
      | some (.read x) => startRead t r x s
      | none => (s, [])
    | none => (s, [])
  | .slot k => startSlot k s

/-- The released position's own record: a kept request is dropped, a slot becomes free (R94, R155). -/
def freePosition (pos : Claimant) (s : State) : State :=
  match pos with
  | .host t => s.setPosition t { s.position t with kept := none }
  | .slot k => s.setSlot k none

/-- What follows a release at the position itself (R25, R35). -/
def heldActs : Claimant → List Act
  | .host t => [.placeHeld t]
  | .slot _ => []

/-- A holder releases: the entry grants, the position is free or places its held-back claim (R25, R35). -/
def releaseLine (pos : Claimant) (s : State) : Effect :=
  let r := lockRelease pos s.locks
  (freePosition pos { s with locks := r.1 }, r.2.map Act.start ++ heldActs pos)

/-- A claim is placed and, if the line's entry allows it, granted at once (R24). -/
def placeClaim (pos : Claimant) (kind : ClaimKind) (line : Nat) (s : State) : Effect :=
  let r := lockPlace { pos := pos, kind := kind } line s.locks
  ({ s with locks := r.1 }, if r.2 then [.start pos] else [])

/-- The claim held back at a host position is placed, once no kept request holds the position (R35). -/
def placeHeldBack (t : Tag) (s : State) : Effect :=
  match (s.position t).kept, (s.position t).heldBack with
  | none, some c => (s.setPosition t { s.position t with heldBack := none }, [.place (.host t) c.kind c.line])
  | _, _ => (s, [])

/-- One inner act. -/
def perform (a : Act) (s : State) : Effect :=
  match a with
  | .deliver op p e => deliverEnd op p e s
  | .start pos => startWork pos s
  | .release pos => releaseLine pos s
  | .place pos kind line => placeClaim pos kind line s
  | .placeHeld t => placeHeldBack t s
  | .sweepPlace => placeNext s
  | .sweepTest => (completeJob s, [])

/-- Acts are performed in order, the acts that one brings before those that wait behind it (DEDUCED, log entry 13); at most `n`
acts. The acts left, if any, are answered with the state. -/
def performAll : Nat → List Act → State → State × List Act
  | _, [], s => (s, [])
  | 0, a :: as, s => (s, a :: as)
  | n + 1, a :: as, s =>
    let r := perform a s
    performAll n (r.2 ++ as) r.1

/-- The lines the running job has not claimed yet. -/
def linesLeft (s : State) : Nat :=
  match s.sweep.job with
  | some j => j.last + 1 - j.cursor
  | none => 0

/-- The claims that wait in the lock table. -/
def claimsWaiting (s : State) : Nat := (s.locks.map fun e => e.waiting.length).sum

/-- The claims held back. -/
def claimsHeldBack (s : State) : Nat := (allTags.filter fun t => (s.position t).heldBack.isSome).length

/-- More acts than an event can come to: each act brings at most five more, and beyond those each waiting claim, held-back
claim and unclaimed line is started once (DESIGN CHOICE, log entry 23). -/
def actBound (acts : List Act) (s : State) : Nat :=
  8 * (acts.length + claimsWaiting s + claimsHeldBack s + linesLeft s)

/-- The acts of an event and all that follows from them. -/
def settleActs (acts : List Act) (s : State) : State := (performAll (actBound acts s) acts s).1

/-! ## The end of an event -/

/-- A DETACHING plane with an empty queue and empty lists becomes OFFLINE, and the PLANE_DETACH result is posted (R13). -/
def drainPlane (s : State) (p : PlaneId) : State :=
  if (s.plane p).state = .detaching ∧ (s.port p).isEmpty = true then
    postResult .done [] (s.setPlane p { s.plane p with state := .offline })
  else s

/-- The drains tested at the end of an event (R13, R107; DEDUCED, log entry 12). -/
def endOfEvent (s : State) : State := allPlanes.foldl drainPlane (endAbort s)

/-! ## The failure of a plane (R6, R144) -/

/-- The plane record of a failed plane (R6 step 1). -/
def failedRecord (r : PlaneRec) (c : FailCause) : PlaneRec := { r with state := .failed, cause := some c }

/-- The abort causes a failure brings (R104, R105), tested before the flush (DEDUCED, log entry 10); `was` is the plane's state
before. -/
def abortOnFailure (was : PlaneState) (s : State) : State :=
  match s.sweep.job with
  | some j =>
    if was = .online ∧ j.kind ≠ .fill ∧ onlinePlanes s = 0 then enterAborting .abortedNoSource s
    else if was = .syncing ∧ (j.kind = .rebuild ∨ j.kind = .fill) ∧ syncingTargets s j = 0 then
      enterAborting .abortedNoTarget s
    else s
  | none => s

/-- Steps 1 and 2 of a failure, with the emptying of the plane's queue and lists (R6, R144). -/
def failFirst (p : PlaneId) (c : FailCause) (s : State) : State :=
  (abortOnFailure (s.plane p).state (s.setPlane p (failedRecord (s.plane p) c))).setPort p (s.port p).flushed

/-- The PLANE_FAILED record (R6 step 4). -/
def failureRecord (p : PlaneId) (c : FailCause) : RecBody :=
  { kind := .planeFailed, origin := .plane c, line := none, planes := onePlane p, outcome := .failed }

/-- Service is halted by the failure of the last ONLINE plane (R6 step 6, R18). -/
def haltService (lastOnline : Bool) (s : State) : State :=
  if lastOnline = true ∧ s.service = .serving then setSticky causeServiceLost { s with service := .halted } else s

/-- A failure posts the result of the PLANE_DETACH it interrupts (R6 step 7, R13). -/
def failDetach (was : PlaneState) (s : State) : State :=
  if was = .detaching then postResult .planeFailed [] s else s

/-- Plane `p` fails with cause `c` (R6): a plane that is not in service does not fail (R7). -/
def failPlane (p : PlaneId) (c : FailCause) (s : State) : State :=
  let was := (s.plane p).state
  if was.inService then
    let s1 := failFirst p c s
    let s2 := settleActs ((s.port p).allOps.map fun op => Act.deliver op p .lost) s1
    let s3 := setSticky causePlaneFailed (postRecord (failureRecord p c) s2)
    failDetach was (haltService (was == .online && onlinePlanes s1 == 0) s3)
  else s

/-! ## Expiries (R138 to R141) -/

/-- The expiry of a plane's oldest op: the count of microseconds stands at or past the instant at which it is due (R138; DESIGN
CHOICE, log entry 3), and the plane fails. -/
def expire (p : PlaneId) (s : State) : State :=
  match dueAt s p with
  | none => s
  | some d => endOfEvent (failPlane p .timeout { s with now := max s.now d })

/-- An expiry that has come due is taken at once (R139, R141), as an event of its own. -/
def expireOverdue (s : State) (p : PlaneId) : State := if overdue s p then expire p s else s

/-! ## Responses (R135 to R137, R8, R9) -/

/-- A response is set aside (R135). -/
def setAside (s : State) (p : PlaneId) (gen : BitVec 3) : Bool :=
  !(s.plane p).state.inService || gen != (s.port p).gen

/-- A DATA_ERROR end is counted on the plane, and may fail it (R8, R9). -/
def countDataError (p : PlaneId) (s : State) : State :=
  let r := s.plane p
  let s1 := s.setPlane p { r with errorCount := r.errorCount + 1 }
  if s.errorLimit ≤ r.errorCount + 1 then failPlane p .errorLimit s1 else s1

/-- The plane manager's part of a matching response (R5, R136). -/
def afterEnd (p : PlaneId) (e : OpEnd) (s : State) : State :=
  match e with
  | .dataError => countDataError p s
  | .writeError => failPlane p .writeError s
  | .readOk _ | .writeOk | .lost => s

/-- A response that is not set aside: `e` is the end its kind and status name, if they name one. It matches the oldest op and ends
it (R136), or fails the plane with LINK_FAULT (R137). The arbiter grants after the plane manager's part (DEDUCED, log entry 14). -/
def matchResponse (p : PlaneId) (slot : BitVec 4) (isRead : Bool) (e : Option OpEnd) (s : State) : State :=
  match (s.port p).queue, e with
  | q :: qs, some e =>
    if q.slot = slot ∧ (q.op.body == .read) = isRead then
      let s1 := s.setPort p { s.port p with queue := qs }
      arbitrate p (afterEnd p e (settleActs [.deliver q.op p e] s1))
    else failPlane p .linkFault s
  | _, _ => failPlane p .linkFault s

/-- A response arrives whole (R135, R187). A new oldest op that is overdue times out at once after it (R139). -/
def takeResponse (p : PlaneId) (slot : BitVec 4) (gen : BitVec 3) (isRead : Bool) (e : Option OpEnd) (s : State) : State :=
  if setAside s p gen then s else expireOverdue (endOfEvent (matchResponse p slot isRead e s)) p

/-- The end a READ response's status names (R136, R186). -/
def readEnd (status : Byte) (data : LineData) : Option OpEnd :=
  if status = 0x00 then some (.readOk data) else if status = 0x01 then some .dataError else none

/-- The end a WRITE response's status names (R136, R186). -/
def writeEnd (status : Byte) : Option OpEnd :=
  if status = 0x00 then some .writeOk else if status = 0x02 then some .writeError else none

end Sys2Proof.Machine
end

