-- ==== Sys2Proof/Machine/Frames.lean ====
section
/-! DEFINITION. The management port as a protocol (chapter 10): the events of a frame, the framing checks of a COMMAND frame, the
MISO bytes of every frame, and the payloads of chapter 11.6, with the four frame rows and UNKNOWN_COMMAND. -/

namespace Sys2Proof.Machine

/-! ## The events of a frame (R166, R188) -/

/-- The frame with its start taken: the frame in progress, or one whose CS# falls now, for which the status byte is captured. None
of its events is taken while PRST# or power-good is low, and it is ignored then (R166). -/
def startedFrame (s : State) : OpenFrame :=
  if s.pins.inReset then .ignored else s.mgmt.frame.getD (.taken (statusByte s) .nothing)

/-- The frame in progress changes. -/
def State.setFrame (s : State) (f : Option OpenFrame) : State := { s with mgmt := { s.mgmt with frame := f } }

/-- A frame that was taken is at its end: no frame is in progress, and the assembly buffer is empty (10.3). -/
def State.endFrame (s : State) : State := { s with mgmt := { s.mgmt with frame := none, assembly := [] } }

/-- The first `n` MISO bytes of a frame: its content and then zeros (R166). -/
def padTo (n : Nat) (content : List Byte) : List Byte := (content ++ List.replicate n 0x00).take n

/-- The frame's MISO bytes have been shifted out, the status byte captured at frame start first (R166). -/
def shiftOut (n : Nat) (first : Byte) (content : List Byte) (s : State) : State :=
  { s with out := { s.out with miso := padTo n (first :: content) } }

/-- What a frame type does: what its type byte's byte complete event latches, given what has been latched already; the MISO bytes
after the first; and what its frame end does. -/
structure FrameType where
  latch : State → Latch → Latch
  content : Latch → List Byte
  effect : Latch → State → State

/-- The events of a frame that have come and are not taken yet, in their order (R166; DESIGN CHOICE, log entry 7): its start, the byte
complete event of its type byte, and its end unless it is `stillOpen`. `n` is its number of complete bytes; a frame with none is
empty and has no effect. An ignored frame has no effect; the MISO bytes of one whose CS# stays low after the reset, which R166 drives
but does not give, are not listed (DESIGN CHOICE, log entry 29). -/
def takeFrame (n : Nat) (stillOpen : Bool) (type : FrameType) (s : State) : State :=
  match startedFrame s with
  | .ignored => s.quiet.setFrame (if stillOpen then some .ignored else none)
  | .taken first l =>
    let latched := if n = 0 then l else type.latch s l
    if stillOpen then s.quiet.setFrame (some (.taken first latched))
    else if n = 0 then s.quiet.endFrame
    else type.effect latched (shiftOut n first (type.content latched) s.quiet.endFrame)

/-- A frame type that latches nothing and returns zeros (R167, R170). -/
def silentFrame (effect : State → State) : FrameType :=
  { latch := fun _ _ => .nothing, content := fun _ => [], effect := fun _ => effect }

/-! ## COMMAND frames (R170, R171) -/

/-- The checks of R170 on a frame whose code names a command, and the command's own part. `n` is the frame's number of complete
bytes, `right` says that the number of parameter bytes is the command's. -/
def takeCommand (n : Nat) (right : Bool) (body : State → State) (s : State) : State :=
  takeFrame n false (silentFrame fun s =>
    if s.mgmt.busy = true ∨ s.mgmt.result.isSome = true then { s with mgmt := { s.mgmt with rejected := true } }
    else if right then body s
    else postResult .badLength [] s) s

/-- A command of `len` parameter bytes (R170, R189). -/
def runCommand (len : Nat) (params : List Byte) (body : State → State) (s : State) :
    Host.Outcome State Fault Refusal :=
  .next (takeCommand (params.length + 2) (params.length == len) body s)

/-- A POLICY_SET whose selector names a value; its value field has two bytes (R175, R189). -/
def runPolicySet (value : List Byte) (body : Nat → State → State) (s : State) : Host.Outcome State Fault Refusal :=
  .next (takeCommand (value.length + 3) (value.length == 2)
    (match value with
    | [b1, b0] => body (number2 b1 b0)
    | _ => id) s)

/-- A refusal: a result with no payload and no other change (R191). -/
def refuse (code : ResultCode) (s : State) : State := postResult code [] s

/-! ## Rows -/

/-- The STATUS frame type (R169): the status byte as it stands at its type byte is the second MISO byte, and its end clears
REJECTED. -/
def statusType : FrameType :=
  { latch := fun s l => match l with | .status b => .status b | _ => .status (statusByte s)
    content := fun l => match l with | .status b => [b] | _ => []
    effect := fun _ s => { s with mgmt := { s.mgmt with rejected := false } } }

/-- STATUS_FRAME (R169). -/
def execStatusFrame (bytes : FrameSoFar Nat) (s : State) : Host.Outcome State Fault Refusal :=
  .next (takeFrame bytes.brought bytes.isOpen statusType s)

/-- The content of a RESULT frame after the status byte, from what it latched (R172). -/
def resultContent : Option Result → List Byte
  | some r => r.code.code :: byte1 r.payload.length :: r.payload
  | none => [noneCode, 0x00]

/-- The RESULT frame type (R172): the buffer's content is latched; a result latched is removed if its code byte was shifted out. -/
def resultType (bytes : Nat) : FrameType :=
  { latch := fun s l => match l with | .result r => .result r | _ => .result s.mgmt.result
    content := fun l => match l with | .result r => resultContent r | _ => []
    effect := fun l s =>
      match l with
      | .result (some _) => if 2 ≤ bytes then { s with mgmt := { s.mgmt with result := none } } else s
      | _ => s }

/-- RESULT_FRAME (R172). -/
def execResultFrame (bytes : FrameSoFar Nat) (s : State) : Host.Outcome State Fault Refusal :=
  .next (takeFrame bytes.brought bytes.isOpen (resultType bytes.brought) s)

/-- A completion record as the COMPLETION frame sends it, after its indicator (R191). -/
def completionBytes (c : CompletionRec) : List Byte :=
  [c.id, c.kind.code, c.outcome.code] ++ bytes4 c.linesDone ++ bytes2 c.mismatches ++ bytes2 c.errors
    ++ bytes4 c.finalCursor

/-- The content of a COMPLETION frame after the status byte, from what it latched (R173, R193). -/
def completionContent : Option CompletionRec → List Byte
  | some c => 0x01 :: completionBytes c
  | none => [0x00]

/-- The head of the completion queue is removed (R111). -/
def dropCompletion (s : State) : State :=
  { s with sweep := { s.sweep with completions := s.sweep.completions.tail } }

/-- The COMPLETION frame type (R173, R193): the head of the completion queue is latched; a record latched is removed if its
indicator was shifted out, and an ENDING engine then places its waiting record (R112). -/
def completionType (bytes : Nat) : FrameType :=
  { latch := fun s l => match l with | .completion c => .completion c | _ => .completion s.sweep.completions.head?
    content := fun l => match l with | .completion c => completionContent c | _ => []
    effect := fun l s =>
      match l with
      | .completion (some _) => if 2 ≤ bytes then placeWaiting (dropCompletion s) else s
      | _ => s }

/-- COMPLETION_FRAME (R173, R193). -/
def execCompletionFrame (bytes : FrameSoFar Nat) (s : State) : Host.Outcome State Fault Refusal :=
  .next (takeFrame bytes.brought bytes.isOpen (completionType bytes.brought) s)

/-- FRAME_REJECTED (R167). -/
def execFrameRejected (frameType : Byte) (bytes : Nat) (s : State) : Host.Outcome State Fault Refusal :=
  if namesFrameType frameType then .refused .notThisRow
  else .next (takeFrame bytes false (silentFrame fun s => { s with mgmt := { s.mgmt with rejected := true } }) s)

/-- The result of a COMMAND frame of the UNKNOWN_COMMAND row that passes check 1 of R170: no code byte, an unknown code, or a
POLICY_SET of the wrong length or with an undefined selector (R170, R175, DESIGN CHOICE, log entry 8). -/
def unknownResult (content : List Byte) : ResultCode :=
  match content with
  | [] => .badLength
  | code :: params =>
    if code = policySetCode then if params.length = 3 then .badParam else .badLength else .unknownCommand

/-- The bytes that a COMMAND frame still open has brought after its type byte stand in the assembly buffer (10.3); those of a frame
that is ignored do not. -/
def assemble (content : List Byte) (s : State) : State :=
  match s.mgmt.frame with
  | some (.taken _ _) => { s with mgmt := { s.mgmt with assembly := content } }
  | _ => s

/-- UNKNOWN_COMMAND (R170): a COMMAND frame that is still open has its bytes assembled and no effect. -/
def execUnknownCommand (content : FrameSoFar (List Byte)) (s : State) : Host.Outcome State Fault Refusal :=
  match content with
  | .stillOpen bytes => .next (assemble bytes (takeFrame (bytes.length + 1) true (silentFrame id) s))
  | .ended bytes =>
    if isUnknownContent bytes then .next (takeCommand (bytes.length + 1) true (refuse (unknownResult bytes)) s)
    else .refused .notThisRow

end Sys2Proof.Machine
end

