-- ==== Sys2Proof/Machine/AlertCommands.lean ====
section
/-! DEFINITION. ALERT_QUERY and ALERT_ACK (R180, R181). ALERT# is a function of the state, so it is judged again in the event
(R179). -/

namespace Sys2Proof.Machine

/-- A set of causes in a byte; bit 7 is zero (R183, R192). -/
def causesByte (c : CauseSet) : Byte := c.setWidth 8

/-- ALERT_QUERY (R180). -/
def execAlertQuery (params : List Byte) (s : State) : Host.Outcome State Fault Refusal :=
  runCommand 0 params (fun s => postResult .done [causesByte (pendingCauses s), causesByte s.alertMask] s) s

/-- The named sticky causes are removed from the pending set (R181); a level cause is not held there. -/
def acknowledge (named : CauseSet) (s : State) : State := postResult .done [] { s with sticky := s.sticky &&& ~~~named }

/-- ALERT_ACK (R181): bit 7 of the acknowledge mask names no cause. -/
def execAlertAck (params : List Byte) (s : State) : Host.Outcome State Fault Refusal :=
  runCommand 1 params (acknowledge ((params.headD 0).setWidth 7)) s

end Sys2Proof.Machine
end

