-- ==== Sys2Proof/Machine/HostCommands.lean ====
section
/-! DEFINITION. The host channel (chapter 9) and the two resets: the meanings of READ, WRITE, UNKNOWN_KIND_DISCARD, RESPONSE_TAKEN,
HOST_CHANNEL_RESET, HRST_RISING, POWER_ON_RESET and POWER_ON_RESET_END. -/

namespace Sys2Proof.Machine

/-! ## Region lookup (R40 to R42) -/

/-- A region covers a line (R40). -/
def Region.covers (r : Region) (line : Nat) : Bool := r.valid && decide (r.base ≤ line) && decide (line ≤ r.limit)

/-- The entry that gives a line its attributes: the lowest-numbered covering region, or the default entry (R41). -/
def lookupRegion (s : State) (line : Nat) : RegionCopy :=
  match (List.finRange 8).find? fun i => s.regions[i].covers line with
  | some i => { index := i.castSucc, attrs := s.regions[i].attrs }
  | none => { index := 8, attrs := s.defaultAttrs }

/-! ## Arrival (R156 to R158) -/

/-- A message leaves the request assembly buffer at its last transfer (R152). -/
def leaveAssembly (s : State) : State := { s with requestAssembly := [] }

/-- A message is discarded (R157, R160). -/
def discardMessage (t : Tag) (kind : Byte) (s : State) : State :=
  setSticky causeHostProtocol { s with protoErr := some { tag := t, kind := kind } }

/-- The kind of claim a request places (R23). -/
def ReqKind.claim : ReqKind → ClaimKind
  | .read => .hostRead
  | .write => .hostWrite

/-- The claim step (R158 step 5): the record is made, and the claim is placed, or held back while a kept request holds the
position (R35, R155). -/
def claimStep (t : Tag) (r : Request) (s : State) : State :=
  let s1 := s.setTag t (.inWork r)
  match (s1.position t).kept with
  | some _ => s1.setPosition t { s1.position t with heldBack := some { kind := r.kind.claim, line := r.line } }
  | none => settleActs [.place (.host t) r.kind.claim r.line] s1

/-- A WRITE is refused PROTECTED (R49, R50). -/
def refuseProtected (t : Tag) (r : Request) (s : State) : State :=
  postRecord (hostRecord t r .writeRefused 0 .refused) (produce t .writeRefused 0 (s.setTag t (.inWork r)))

/-- The acceptance of a request (R158). -/
def accept (t : Tag) (kind : ReqKind) (line : Nat) (work : Work) (s : State) : State :=
  let bare : Request := { kind := kind, line := line, copied := none, work := none }
  if planeLines s ≤ line then produce t .outOfRange 0 (s.setTag t (.inWork bare))
  else if s.service = .halted then produce t .notReady 0 (s.setTag t (.inWork bare))
  else
    let r := { bare with copied := some (lookupRegion s line) }
    if kind = .write ∧ r.attrs.protect = true then refuseProtected t r s
    else claimStep t { r with work := some work } s

/-- Transfers of a request are held until its last one is made, and nothing of the request has effect (R152). While the request
path is not ready no transfer is made (R156). -/
def holdTransfers (held : List Transfer) (s : State) : State := if requestReady s then { s with requestAssembly := held } else s

/-- A request of a known kind arrives (R156 to R158): its last transfer is made, and with it those not held yet (DESIGN CHOICE, log
entry 7). While the request path is not ready nothing arrives (DEDUCED, log entry 6). -/
def arrive (t : Tag) (kind : ReqKind) (line : Nat) (work : Work) (s : State) : State :=
  if requestReady s then
    if (s.tag t).isLive then discardMessage t kind.code (leaveAssembly s)
    else accept t kind line work (leaveAssembly s)
  else s

/-- READ (R158). -/
def execRead (tag : Tag) (line : LineWord) (s : State) : Host.Outcome State Fault Refusal :=
  .next (arrive tag .read line.toNat (.read {}) s.quiet)

/-- WRITE (R158). -/
def execWrite (tag : Tag) (line : LineWord) (mask : ByteMask) (data : DataSoFar) (s : State) :
    Host.Outcome State Fault Refusal :=
  match data with
  | .whole d => .next (arrive tag .write line.toNat (.write { mask := mask, data := d }) s.quiet)
  | .partly held d => .next (holdTransfers ((writeTransfers tag line mask d).take (held.val + 1)) s.quiet)

/-- UNKNOWN_KIND_DISCARD (R157). -/
def execUnknownKindDiscard (kind : Byte) (tag : Tag) (s : State) : Host.Outcome State Fault Refusal :=
  if namesKind kind then .refused .notThisRow
  else .next (if requestReady s then discardMessage tag kind (leaveAssembly s.quiet) else s.quiet)

/-! ## A response is taken (R155, R161) -/

/-- The request of an answered tag still holds its line, under a position no other request keeps (R155). -/
def stillHolds (s : State) (t : Tag) (r : Request) : Bool :=
  r.work.isSome && (s.position t).kept.isNone && holdsLine s (.host t)

/-- The tag is freed; the record of a request that still holds its line passes to the host position (R155). -/
def freeTag (t : Tag) (s : State) : State :=
  match (s.tag t).request with
  | some r =>
    if stillHolds s t r then (s.setPosition t { s.position t with kept := some r }).setTag t .free else s.setTag t .free
  | none => s

/-- The host takes the head of the response queue (R161); nothing is offered while HRST# or PRST# is low (R164). -/
def takeHead (s : State) : State :=
  match s.responses with
  | [] => s
  | x :: rest =>
    if requestReady s then freeTag x.tag { s with responses := rest, out := { s.out with response := some x } } else s

/-- RESPONSE_TAKEN (R161). -/
def execResponseTaken (s : State) : Host.Outcome State Fault Refusal := .next (takeHead s.quiet)

/-! ## Host channel reset (R33, R60, R85, R150, R163) -/

/-- The planes on whose host-side list a position has an unissued op (R150). -/
def unissuedPlanes (s : State) (t : Tag) : PlaneSet :=
  planesWhere fun p => (s.port p).hostList.any fun op => op.owner == .host t

/-- A write record whose holder becomes an orphan, its unissued ops withdrawn (R60). -/
def WriteRec.cutOff (w : WriteRec) (gone : PlaneSet) : WriteRec :=
  { w with
    orphan := true
    outstanding := lessPlanes w.outstanding gone
    withdrawn := w.withdrawn ||| (w.outstanding &&& gone) }

/-- A read record whose holder becomes an orphan, its unissued ops withdrawn (R85). -/
def ReadRec.cutOff (x : ReadRec) (gone : PlaneSet) : ReadRec :=
  { x with
    orphan := true
    outstanding := lessPlanes x.outstanding gone
    withdrawn := x.withdrawn ||| (x.outstanding &&& gone)
    repairsOut := lessPlanes x.repairsOut gone }

/-- A host holder's request at a host channel reset (R33, R60, R85). -/
def Request.cutOff (r : Request) (gone : PlaneSet) : Request :=
  { r with
    work := r.work.map fun k =>
      match k with
      | .read x => .read (x.cutOff gone)
      | .write w => .write (w.cutOff gone) }

/-- The request has no op outstanding. -/
def Request.settled (r : Request) : Bool :=
  match r.work with
  | some (.read x) => x.outstanding == 0 && x.repairsOut == 0
  | some (.write w) => w.outstanding == 0
  | none => false

/-- The kind of the record a READ posted at its response: MISMATCH where its copies were divided (R85). -/
def postedKind (x : ReadRec) : RecKind :=
  match vote x.copies x.erred with
  | .majority _ _ | .split => .mismatch
  | _ => .readError

/-- The records a host channel reset posts for one holder it makes an orphan: for withdrawn WRITE ops (R60), for removed repair
writes (R85), and the pending record of a READ left with no op (R85). -/
def orphanRecords (t : Tag) (r : Request) (gone : PlaneSet) : List RecBody :=
  match r.work with
  | some (.write w) =>
    let w1 := w.cutOff gone
    if w1.withdrawn ≠ 0 ∧ (w1.outstanding ||| w1.endedOk ||| w1.endedErred ||| w1.endedLost) ≠ 0 then
      [hostRecord t r .writeLost w1.withdrawn .lost]
    else []
  | some (.read x) =>
    let x1 := x.cutOff gone
    let removed := x.repairsOut &&& gone
    (if removed ≠ 0 then [hostRecord t r (postedKind x) removed .unresolved] else []) ++
      (if x1.outstanding = 0 ∧ x1.repairsOut = 0 then
        (x.pendingRecord.map fun g => hostRecord t r .readError g .unresolved).toList
      else [])
  | none => []

/-- A host channel reset at one tag: its holder becomes an orphan and its records are posted; an orphan of an earlier reset stays
as it is (R33, R61); what waits or is held back is dropped. -/
def cutOffTag (s : State) (t : Tag) : State :=
  if holdsLine s (.host t) then
    match requestAt s t with
    | some r =>
      if r.isOrphan then s.setPosition t { kept := some r, heldBack := none }
      else
        let gone := unissuedPlanes s t
        (orphanRecords t r gone).foldl (fun s b => postRecord b s)
          (s.setPosition t { kept := some (r.cutOff gone), heldBack := none })
    | none => s.setPosition t { kept := none, heldBack := none }
  else s.setPosition t { kept := none, heldBack := none }

/-- An orphan with no op left at the reset releases in the reset event (R33 step 4). -/
def releasedAtReset (s : State) (pos : Claimant) : Bool :=
  match pos with
  | .host t => ((s.position t).kept.map Request.settled).getD false
  | .slot _ => false

/-- The kept request of an orphan that releases in the reset event is dropped. -/
def dropSettled (s : State) (t : Tag) : State :=
  if releasedAtReset s (.host t) then s.setPosition t { s.position t with kept := none } else s

/-- The four host-side issue lists are emptied (R150). -/
def clearHostList (s : State) (p : PlaneId) : State := s.setPort p { s.port p with hostList := [] }

/-- The tag table, the response queue and the request assembly buffer are emptied (R163). -/
def clearChannel (s : State) : State :=
  { s with tags := Vector.replicate 32 .free, responses := [], requestAssembly := [] }

/-- HRST# falls (R33, R60, R85, R150, R163). The granted sweep claims start in ascending slot order (R33). R61 and R114 leave the
sweep cursor unchanged by the reset; a line released at its grant in this event (R33, R93, R94) lets the engine claim further
lines in it, and the cursor then advances (the model's choice: DESIGN CHOICE, log entry 26). -/
def resetHostChannel (s : State) : State :=
  let s1 := clearChannel (allTags.foldl cutOffTag s)
  let cut := lockCutOff (releasedAtReset s1) s1.locks
  let s2 := allPlanes.foldl clearHostList (allTags.foldl dropSettled { s1 with locks := cut.1 })
  let granted := allSlots.filter fun k => cut.2.contains (.slot k)
  endOfEvent (settleActs (granted.map fun k => Act.start (.slot k)) s2)

/-- HOST_CHANNEL_RESET (R163): HRST# falling while it is low has no effect (R164). -/
def execHostChannelReset (s : State) : Host.Outcome State Fault Refusal :=
  let s := s.quiet
  if s.pins.hrstLow then .next s
  else .next (resetHostChannel { s with pins := { s.pins with hrstLow := true } })

/-- HRST_RISING (R164): the request path is ready again. -/
def execHrstRising (s : State) : Host.Outcome State Fault Refusal :=
  .next { s.quiet with pins := { s.pins with hrstLow := false } }

/-! ## Power-on reset (R165 and the rules it gathers) -/

/-- The link field by the level of LRDY (R2, R151). -/
def linkOf (lrdy : Bool) : Link := if lrdy then .up else .down

/-- Every link field is taken from LRDY (R2, R151), at either edge of the reset (DEDUCED, log entry 22). -/
def sampleLinks (s : State) : State :=
  { s with planes := Vector.ofFn fun p : PlaneId => { s.plane p with link := linkOf s.pins.lrdy[p] } }

/-- POWER_ON_RESET (R165): every block at its power-on values. The pins keep their levels (DESIGN CHOICE, log entry 24),
REFCLK goes on counting, and the queue of commands is not the part's. A frame in progress is ignored to its end (R166, R182). -/
def execPowerOnReset (s : State) : Host.Outcome State Fault Refusal :=
  .next (sampleLinks { State.reset with
    pending := s.pending
    now := s.now
    mgmt := { State.reset.mgmt with frame := s.mgmt.frame.map fun _ => .ignored }
    pins := { s.pins with inReset := true } })

/-- POWER_ON_RESET_END (R165, R151, R166). -/
def execPowerOnResetEnd (s : State) : Host.Outcome State Fault Refusal :=
  .next (if s.pins.inReset then sampleLinks { s.quiet with pins := { s.pins with inReset := false } } else s.quiet)

end Sys2Proof.Machine
end

