-- ==== Sys2Proof/Machine/InnerSteps.lean ====
section
/-! DEFINITION. The rows that are steps inside the part. Each rule takes its step in the event that causes it, and the meanings of
the causing rows do; these rows take a step that is due and change nothing where none is
(DEDUCED, log entry 1). -/

namespace Sys2Proof.Machine

/-- The end of an abort is tested (R107) where the event released the last slot in flight. -/
def endAfterRelease (before s : State) : State := if noSlotInFlight before then s else endAbort s

/-- GRANT (R25, R26): the waiting claims at the head of the line's list are granted, once no holders remain. A sweep line granted
so may be released in the same event (R94, R107). -/
def execGrant (line : LineWord) (s : State) : Host.Outcome State Fault Refusal :=
  let s := s.quiet
  let r := lockGrant line.toNat s.locks
  .next (endAfterRelease s (settleActs (r.2.map Act.start) { s with locks := r.1 }))

/-- HELD_BACK_CLAIM (R35). -/
def execHeldBackClaim (tag : Tag) (s : State) : Host.Outcome State Fault Refusal :=
  .next (settleActs [.placeHeld tag] s.quiet)

/-- SWEEP_CLAIM (R92). -/
def execSweepClaim (s : State) : Host.Outcome State Fault Refusal := .next (settleActs [.sweepPlace] s.quiet)

/-- ABORT_END (R107). -/
def execAbortEnd (s : State) : Host.Outcome State Fault Refusal := .next (endAbort s.quiet)

/-- JOB_COMPLETE (R109). -/
def execJobComplete (s : State) : Host.Outcome State Fault Refusal := .next (completeJob s.quiet)

/-- ENDING_RECORD_PLACED (R112). -/
def execEndingRecordPlaced (s : State) : Host.Outcome State Fault Refusal := .next (placeWaiting s.quiet)

/-- DETACH_DRAIN_END (R13). -/
def execDetachDrainEnd (plane : PlaneId) (s : State) : Host.Outcome State Fault Refusal := .next (drainPlane s.quiet plane)

end Sys2Proof.Machine
end

