-- ==== Sys2Proof/Machine/LinkCommands.lean ====
section
/-! DEFINITION. The plane links (chapter 8): LRDY, responses, the plane timeout and issue. -/

namespace Sys2Proof.Machine

/-- The level of a plane's LRDY pin changes, and the link field with it (R3, R142). The edge is taken whatever level stood before
(DESIGN CHOICE, log entry 18). -/
def setLrdy (p : PlaneId) (level : Bool) (link : Link) (s : State) : State :=
  { s.setPlane p { s.plane p with link := link } with
    pins := { s.pins with lrdy := s.pins.lrdy.set p.val level p.isLt } }

/-- LRDY_RISING (R3, R142). -/
def execLrdyRising (plane : PlaneId) (s : State) : Host.Outcome State Fault Refusal :=
  .next (setLrdy plane true .up s.quiet)

/-- LRDY_FALLING (R3, R142): a plane in service fails with LINK_LOST. -/
def execLrdyFalling (plane : PlaneId) (s : State) : Host.Outcome State Fault Refusal :=
  .next (endOfEvent (failPlane plane .linkLost (setLrdy plane false .down s.quiet)))

/-- READ_RESPONSE (R135 to R137, R187). -/
def execReadResponse (plane : PlaneId) (slot : BitVec 4) (gen : BitVec 3) (status : Byte) (data : LineData) (s : State) :
    Host.Outcome State Fault Refusal :=
  .next (takeResponse plane slot gen true (readEnd status data) s.quiet)

/-- WRITE_RESPONSE (R135 to R137, R187). -/
def execWriteResponse (plane : PlaneId) (slot : BitVec 4) (gen : BitVec 3) (status : Byte) (s : State) :
    Host.Outcome State Fault Refusal :=
  .next (takeResponse plane slot gen false (writeEnd status) s.quiet)

/-- UNKNOWN_KIND_RESPONSE (R187): it matches no op. -/
def execUnknownKindResponse (plane : PlaneId) (slot : BitVec 4) (gen : BitVec 3) (kind _status : Byte) (s : State) :
    Host.Outcome State Fault Refusal :=
  if namesKind kind then .refused .notThisRow
  else .next (takeResponse plane slot gen false none s.quiet)

/-- The plane whose expiry comes first of those that come before that of plane `p`. -/
def firstBefore (s : State) (p : PlaneId) : Option PlaneId :=
  allPlanes.find? fun q => expiresBefore s q p && allPlanes.all fun r => !expiresBefore s r q

/-- The expiries that come before that of plane `p`, each an event of its own, in the order of their instants (R138). -/
def expireBefore : Nat → PlaneId → State → State
  | 0, _, s => s
  | n + 1, p, s =>
    match firstBefore s p with
    | some q => expireBefore n p (expire q s)
    | none => s

/-- The expiry of a plane that is overdue now, or else of one that comes due as time passes, after those of the other three planes
that come due before it (R138; DESIGN CHOICE, log entry 3). -/
def expireInTurn (p : PlaneId) (s : State) : State :=
  if overdue s p then expire p s else expire p (expireBefore 3 p s)

/-- PLANE_TIMEOUT_EXPIRY (R138): with the queue empty no timer runs and no expiry arises (R139, R140). -/
def execPlaneTimeoutExpiry (plane : PlaneId) (s : State) : Host.Outcome State Fault Refusal :=
  .next (expireInTurn plane s.quiet)

/-- ISSUE (R134): one grant of the plane's arbiter, where R147 allows one. -/
def execIssue (plane : PlaneId) (s : State) : Host.Outcome State Fault Refusal :=
  .next ((grantOp plane s.quiet).getD s.quiet)

/-- What a step on an empty queue does (DESIGN CHOICE, log entry 2): the expiry of the lowest-numbered plane whose oldest op is
overdue (R138), or else one microsecond passes. -/
def passTime (s : State) : State :=
  match allPlanes.find? (overdue s) with
  | some p => expire p s
  | none => { s with now := s.now + 1 }

end Sys2Proof.Machine
end

