-- ==== Sys2Proof/Machine/LogCommands.lean ====
section
/-! DEFINITION. The commands of the divergence log and the suspect table (R121 to R123, R129, R130). -/

namespace Sys2Proof.Machine

/-- The payload of LOG_STATUS (R121, R191). -/
def logStatusBytes (l : DivLog) : List Byte :=
  [byte1 l.records.length] ++ bytes2 l.overflow ++ bytes2 l.nextSeq.toNat ++ [l.mode.code]

/-- LOG_STATUS (R121). -/
def execLogStatus (params : List Byte) (s : State) : Host.Outcome State Fault Refusal :=
  runCommand 0 params (fun s => postResult .done (logStatusBytes s.log) s) s

/-- The presence byte of a divergence record (R191). -/
def presenceByte (b : RecBody) : Byte :=
  (if b.line.isSome then 0x01 else 0x00) |||
    match b.origin with
    | .host _ _ => 0x06
    | .sweep _ => 0x08
    | .plane _ => 0x10

/-- Tag, region, job id and cause of a divergence record; an absent one is zero (R191, R192). -/
def originBytes : RecOrigin → List Byte
  | .host t region => [byte1 t.val, byte1 region.val, 0, 0]
  | .sweep job => [0, 0, job, 0]
  | .plane cause => [0, 0, 0, cause.code]

/-- A divergence record as LOG_PEEK returns it (R191, R192). -/
def recordBytes (d : DivRec) : List Byte :=
  bytes2 d.seq.toNat ++ [d.body.kind.code, d.body.origin.code, presenceByte d.body] ++ bytes4 (d.body.line.getD 0) ++
    [planesByte d.body.planes, d.body.outcome.code] ++ originBytes d.body.origin ++ [byte1 d.repeats]

/-- LOG_PEEK (R121). -/
def execLogPeek (params : List Byte) (s : State) : Host.Outcome State Fault Refusal :=
  runCommand 0 params
    (fun s =>
      match s.log.records with
      | [] => postResult .empty [] s
      | d :: _ => postResult .done (recordBytes d) s) s

/-- LOG_DROP of a seq (R122). -/
def dropRecord (seq : Nat) (s : State) : State :=
  match s.log.records with
  | [] => postResult .empty [] s
  | d :: ds => if d.seq.toNat = seq then postResult .done [] { s with log := { s.log with records := ds } } else postResult .stale [] s

/-- LOG_DROP (R122). -/
def execLogDrop (params : List Byte) (s : State) : Host.Outcome State Fault Refusal :=
  runCommand 2 params (match params with | [b1, b0] => dropRecord (number2 b1 b0) | _ => id) s

/-- LOG_CLEAR (R123). -/
def execLogClear (params : List Byte) (s : State) : Host.Outcome State Fault Refusal :=
  runCommand 0 params (fun s => postResult .done [] { s with log := { s.log with records := [], overflow := 0 } }) s

/-- The payload of SUSPECT_READ (R129, R191). -/
def suspectBytes (e : SuspectEntry) : List Byte := bytes4 e.line ++ [e.reason.code, planesByte e.planes]

/-- SUSPECT_READ of a position (R129). -/
def readSuspect (index : Nat) (s : State) : State :=
  if 15 < index then refuse .badParam s
  else
    match s.suspects[index]? with
    | some e => postResult .done (suspectBytes e) s
    | none => postResult .empty [] s

/-- SUSPECT_READ (R129). -/
def execSuspectRead (params : List Byte) (s : State) : Host.Outcome State Fault Refusal :=
  runCommand 1 params (readSuspect ((params.head?.map BitVec.toNat).getD 0)) s

/-- SUSPECT_CLEAR of a line (R130). -/
def clearSuspect (line : Nat) (s : State) : State :=
  if Config.lastLine < line then refuse .badParam s
  else if isSuspect s line then postResult .done [] (removeSuspect line s)
  else postResult .notFound [] s

/-- SUSPECT_CLEAR (R130). -/
def execSuspectClear (params : List Byte) (s : State) : Host.Outcome State Fault Refusal :=
  runCommand 4 params (match params with | [b3, b2, b1, b0] => clearSuspect (number4 b3 b2 b1 b0) | _ => id) s

/-- SUSPECT_CLEAR_ALL (R130). -/
def execSuspectClearAll (params : List Byte) (s : State) : Host.Outcome State Fault Refusal :=
  runCommand 0 params (fun s => postResult .done [] { s with suspects := [] }) s

end Sys2Proof.Machine
end

