-- ==== Sys2Proof/Machine/PlaneCommands.lean ====
section
/-! DEFINITION. The commands of the plane manager (chapter 1) and DEVICE_QUERY (R174). -/

namespace Sys2Proof.Machine

/-- Items of DEVICE_QUERY for the last protocol error: present, tag, kind code (R191, R192). -/
def protoErrBytes : Option ProtoErr → List Byte
  | none => [0, 0, 0]
  | some e => [1, byte1 e.tag.val, e.kind]

/-- The payload of DEVICE_QUERY (R174, R191). -/
def deviceBytes (s : State) : List Byte :=
  [s.service.code, byte1 s.geometry] ++ allPlanes.map (fun p => (s.plane p).state.code) ++
    [s.sweep.engine.code, byte1 s.log.records.length, byte1 s.suspects.length, byte1 s.sweep.completions.length] ++
    protoErrBytes s.protoErr

/-- DEVICE_QUERY (R174). -/
def execDeviceQuery (params : List Byte) (s : State) : Host.Outcome State Fault Refusal :=
  runCommand 0 params (fun s => postResult .done (deviceBytes s) s) s

/-- SERVICE_SET by its parameter (R19). -/
def setService (on : Option Bool) (s : State) : State :=
  match on with
  | none => refuse .badParam s
  | some true => if onlinePlanes s = 0 then refuse .noSource s else postResult .done [] { s with service := .serving }
  | some false => postResult .done [] { s with service := .halted }

/-- SERVICE_SET (R19). -/
def execServiceSet (params : List Byte) (s : State) : Host.Outcome State Fault Refusal :=
  runCommand 1 params (setService (params.head?.bind flag?)) s

/-- GEOMETRY_SET by its parameter (R20). -/
def setGeometry (code : Nat) (s : State) : State :=
  if 6 < code then refuse .badParam s
  else if s.service = .serving ∨ anyInService s = true ∨ s.sweep.engine ≠ .idle then refuse .conflict s
  else postResult .done [] { s with geometry := code, suspects := [] }

/-- The number a command's one parameter byte carries. -/
def onlyByte (params : List Byte) : Nat := (params.head?.map BitVec.toNat).getD 0

/-- GEOMETRY_SET (R20). -/
def execGeometrySet (params : List Byte) (s : State) : Host.Outcome State Fault Refusal :=
  runCommand 1 params (setGeometry (onlyByte params)) s

/-- A command whose parameter is one plane number; a number above 3 is BAD_PARAM before any other check (1.5). -/
def runPlaneCommand (params : List Byte) (body : PlaneId → State → State) (s : State) : Host.Outcome State Fault Refusal :=
  runCommand 1 params (match params.head?.bind plane? with | some p => body p | none => refuse .badParam) s

/-- The payload of PLANE_STATUS (R16, R191). -/
def planeBytes (r : PlaneRec) : List Byte := [r.state.code, r.link.code, byte1 r.errorCount, causeCode r.cause]

/-- PLANE_STATUS (R16). -/
def execPlaneStatus (params : List Byte) (s : State) : Host.Outcome State Fault Refusal :=
  runPlaneCommand params (fun p s => postResult .done (planeBytes (s.plane p)) s) s

/-- PLANE_ADOPT of a plane (R11). -/
def adoptPlane (p : PlaneId) (s : State) : State :=
  if (s.plane p).state ≠ .offline ∨ anyInService s = true ∨ s.sweep.engine ≠ .idle then refuse .conflict s
  else if (s.plane p).link = .down then refuse .linkDown s
  else postResult .done [] (s.setPlane p { s.plane p with state := .online, errorCount := 0 })

/-- PLANE_ADOPT (R11). -/
def execPlaneAdopt (params : List Byte) (s : State) : Host.Outcome State Fault Refusal :=
  runPlaneCommand params adoptPlane s

/-- PLANE_DETACH of a plane (R12, R13): accepted, it leaves COMMAND_BUSY set until the drain ends. -/
def detachPlane (p : PlaneId) (s : State) : State :=
  if (s.plane p).state ≠ .online then refuse .conflict s
  else if dropPlane (onlinePlanes s) p = 0 then refuse .lastCopy s
  else
    endOfEvent { s.setPlane p { s.plane p with state := .detaching } with mgmt := { s.mgmt with busy := true } }

/-- PLANE_DETACH (R12, R13). -/
def execPlaneDetach (params : List Byte) (s : State) : Host.Outcome State Fault Refusal :=
  runPlaneCommand params detachPlane s

/-- PLANE_RELEASE of a plane (R14). -/
def releasePlane (p : PlaneId) (s : State) : State :=
  if (s.plane p).state ≠ .failed then refuse .conflict s
  else postResult .done [] (s.setPlane p { s.plane p with state := .offline, cause := none })

/-- PLANE_RELEASE (R14). -/
def execPlaneRelease (params : List Byte) (s : State) : Host.Outcome State Fault Refusal :=
  runPlaneCommand params releasePlane s

end Sys2Proof.Machine
end

