-- ==== Sys2Proof/Machine/PolicyCommands.lean ====
section
/-! DEFINITION. POLICY_SET and POLICY_GET (R175, R176, R10, R120, R141, R149, R178). LOG_LEVEL and ALERT# are functions of the
state, so a new threshold or mask judges them again in its own event (R119, R179). -/

namespace Sys2Proof.Machine

/-- A value within its range is stored and the result is DONE; any other value is BAD_PARAM (R175). -/
def storeValue (low high : Nat) (store : Nat → State → State) (v : Nat) (s : State) : State :=
  if low ≤ v ∧ v ≤ high then postResult .done [] (store v s) else refuse .badParam s

/-- POLICY_SET ERROR_LIMIT (R10). -/
def execPolicySetErrorLimit (value : List Byte) (s : State) : Host.Outcome State Fault Refusal :=
  runPolicySet value (storeValue 1 255 fun v s => { s with errorLimit := v }) s

/-- The expiries that a lowered plane timeout finds due, at once after the command's event (R141): one after another in ascending
plane order (DESIGN CHOICE, log entry 27). A value that is not lowered brings none (R141, R175). -/
def expireLowered (old : Nat) (s : State) : State := if s.planeTimeout < old then allPlanes.foldl expireOverdue s else s

/-- A plane timeout in its range is stored, as any policy value, and stands from the next comparison (R141, R175). -/
def storeTimeout (v : Nat) (s : State) : State :=
  if 2 ≤ v ∧ v ≤ 1023 then expireLowered s.planeTimeout (postResult .done [] { s with planeTimeout := v })
  else refuse .badParam s

/-- POLICY_SET PLANE_TIMEOUT (R141). -/
def execPolicySetPlaneTimeout (value : List Byte) (s : State) : Host.Outcome State Fault Refusal :=
  runPolicySet value storeTimeout s

/-- POLICY_SET SWEEP_SHARE (R149). -/
def execPolicySetSweepShare (value : List Byte) (s : State) : Host.Outcome State Fault Refusal :=
  runPolicySet value (storeValue 1 16 fun v s => { s with sweepShare := v }) s

/-- POLICY_SET LOG_MODE (R120, R190): codes 0 and 1. -/
def execPolicySetLogMode (value : List Byte) (s : State) : Host.Outcome State Fault Refusal :=
  runPolicySet value
    (storeValue 0 1 fun v s => { s with log := { s.log with mode := if v = 0 then .keepOldest else .keepNewest } }) s

/-- POLICY_SET LOG_THRESHOLD (R120). -/
def execPolicySetLogThreshold (value : List Byte) (s : State) : Host.Outcome State Fault Refusal :=
  runPolicySet value (storeValue 1 64 fun v s => { s with log := { s.log with threshold := v } }) s

/-- POLICY_SET ALERT_MASK (R178): every value is accepted, and positions that name no cause are ignored. -/
def execPolicySetAlertMask (value : List Byte) (s : State) : Host.Outcome State Fault Refusal :=
  runPolicySet value (fun v s => postResult .done [] { s with alertMask := BitVec.ofNat 7 v }) s

/-- The value POLICY_GET reports for a selector (R176, R192); none where no value is named. -/
def policyValue (selector : Byte) (s : State) : Option Nat :=
  match selector.toNat with
  | 0 => some s.errorLimit
  | 1 => some s.planeTimeout
  | 2 => some s.sweepShare
  | 3 => some s.log.mode.code.toNat
  | 4 => some s.log.threshold
  | 5 => some s.alertMask.toNat
  | _ => none

/-- POLICY_GET of a selector (R176, R191). -/
def getPolicy (selector : Byte) (s : State) : State :=
  match policyValue selector s with
  | some v => postResult .done (selector :: bytes2 v) s
  | none => refuse .badParam s

/-- POLICY_GET (R176). -/
def execPolicyGet (params : List Byte) (s : State) : Host.Outcome State Fault Refusal :=
  runCommand 1 params (getPolicy (params.headD 0)) s

end Sys2Proof.Machine
end

