-- ==== Sys2Proof/Machine/RegionCommands.lean ====
section
/-! DEFINITION. The region table's commands (R43 to R45). -/

namespace Sys2Proof.Machine

/-- Read select from its two parameter bytes: FIXED takes a plane 0 to 3, ROTATE ignores the plane byte (R43). -/
def readSelect? (select plane : Byte) : Option ReadSelect :=
  if select = 0 then some .rotate
  else if select = 1 then (plane? plane).map .fixed
  else none

/-- The five attributes from their parameter bytes; none where checks 2 and 3 of R43 fail. -/
def attrs? (mode select plane repair ack protect : Byte) : Option Attrs := do
  let m ← readMode? mode
  let r ← flag? repair
  let a ← ack? ack
  let p ← flag? protect
  let x ← readSelect? select plane
  pure { readMode := m, readSelect := x, repair := r, ack := a, protect := p }

/-- A region from its parameters; none where checks 4 to 6 of R43 fail. -/
def region? (valid : Byte) (base limit : Nat) (a : Attrs) : Option Region :=
  match flag? valid with
  | some v => if base ≤ limit ∧ limit ≤ Config.lastLine then some { valid := v, base := base, limit := limit, attrs := a } else none
  | none => none

/-- A region entry is replaced (R44). -/
def setRegion (i : Fin 8) (r : Region) (s : State) : State := { s with regions := s.regions.set i.val r i.isLt }

/-- REGION_SET of an entry whose attributes are decoded (R43, R44): index 8 takes the attributes alone. -/
def setEntry (index : Nat) (valid : Byte) (base limit : Nat) (a : Attrs) (s : State) : State :=
  if h : index < 8 then
    match region? valid base limit a with
    | some r => postResult .done [] (setRegion ⟨index, h⟩ r s)
    | none => refuse .badParam s
  else if index = 8 then postResult .done [] { s with defaultAttrs := a }
  else refuse .badParam s

/-- REGION_SET by its sixteen parameter bytes (R43, R189). -/
def regionSetBody (params : List Byte) (s : State) : State :=
  match params with
  | [index, valid, b3, b2, b1, b0, l3, l2, l1, l0, mode, select, plane, repair, ack, protect] =>
    match attrs? mode select plane repair ack protect with
    | some a => setEntry index.toNat valid (number4 b3 b2 b1 b0) (number4 l3 l2 l1 l0) a s
    | none => refuse .badParam s
  | _ => s

/-- REGION_SET (R43, R44). -/
def execRegionSet (params : List Byte) (s : State) : Host.Outcome State Fault Refusal :=
  runCommand 16 params (regionSetBody params) s

/-- The attribute bytes of REGION_GET (R45, R191). -/
def attrBytes (a : Attrs) : List Byte :=
  [a.readMode.code, a.readSelect.code, a.readSelect.planeByte, flagByte a.repair, a.ack.code, flagByte a.protect]

/-- The payload of REGION_GET for a region (R45, R191). -/
def regionBytes (r : Region) : List Byte := [flagByte r.valid] ++ bytes4 r.base ++ bytes4 r.limit ++ attrBytes r.attrs

/-- REGION_GET of an entry (R45): valid, base and limit of index 8 are 0. -/
def getEntry (index : Nat) (s : State) : State :=
  if h : index < 8 then postResult .done (regionBytes s.regions[index]) s
  else if index = 8 then
    postResult .done (regionBytes { valid := false, base := 0, limit := 0, attrs := s.defaultAttrs }) s
  else refuse .badParam s

/-- REGION_GET (R45). -/
def execRegionGet (params : List Byte) (s : State) : Host.Outcome State Fault Refusal :=
  runCommand 1 params (getEntry ((params.head?.map BitVec.toNat).getD 0)) s

end Sys2Proof.Machine
end

