-- ==== Sys2Proof/Machine/SweepCommands.lean ====
section
/-! DEFINITION. The sweep engine's commands (R89, R90, R108, R113). -/

namespace Sys2Proof.Machine

/-- The parameters of SWEEP_START (R89). -/
structure SweepParams where
  kind : Option JobKind
  first : Nat
  last : Nat
  targets : PlaneSet
  window : Nat
  pattern : Byte
  deriving DecidableEq, Repr

/-- The job kind has targets (R89). -/
def JobKind.hasTargets : JobKind → Bool
  | .rebuild | .fill => true
  | .verify | .scrub => false

/-- Checks 5 to 7 of R89, for a job with targets. -/
def targetRefusal (s : State) (targets : PlaneSet) : Option ResultCode :=
  if targets = 0 then some .conflict
  else if (planesOf targets).any fun p => (s.plane p).state != .offline then some .conflict
  else if (planesOf targets).any fun p => (s.plane p).link != .up then some .linkDown
  else none

/-- Checks 8 to 10 of R89. -/
def sourceRefusal (s : State) (k : JobKind) : Option ResultCode :=
  if k = .fill then if anyInService s = true ∨ s.service = .serving then some .conflict else none
  else if onlinePlanes s = 0 then some .noSource
  else none

/-- The checks of R89 in their order, for a defined kind; none where every check passes. -/
def sweepRefusal (s : State) (k : JobKind) (x : SweepParams) : Option ResultCode :=
  if x.window < 1 ∨ 4 < x.window then some .badParam
  else if k.hasTargets then (targetRefusal s x.targets).orElse fun _ => sourceRefusal s k
  else if x.last < x.first ∨ planeLines s ≤ x.last then some .badParam
  else sourceRefusal s k

/-- The job an accepted SWEEP_START starts (R90). -/
def newJob (s : State) (k : JobKind) (x : SweepParams) : Job :=
  { id := s.sweep.jobCounter + 1
    kind := k
    first := if k.hasTargets then 0 else x.first
    last := if k.hasTargets then planeLines s - 1 else x.last
    targets := if k.hasTargets then x.targets else 0
    window := x.window
    pattern := if k = .fill then x.pattern else 0
    cursor := if k.hasTargets then 0 else x.first
    linesDone := 0
    mismatches := 0
    errors := 0
    outcome := none }

/-- A target enters SYNCING (R15). -/
def enterSyncing (s : State) (p : PlaneId) : State :=
  s.setPlane p { s.plane p with state := .syncing, errorCount := 0, cause := none }

/-- An accepted SWEEP_START (R90): the job, its targets, RUNNING, the result, then the first claims. -/
def startJob (j : Job) (s : State) : State :=
  let s1 := (planesOf j.targets).foldl enterSyncing s
  let s2 := { s1 with sweep := { s1.sweep with job := some j, jobCounter := j.id, engine := .running } }
  settleActs [.sweepPlace] (postResult .done [j.id] s2)

/-- SWEEP_START by its parameters (R89, R90). -/
def sweepStartBody (x : SweepParams) (s : State) : State :=
  if s.sweep.engine ≠ .idle then refuse .busy s
  else
    match x.kind with
    | none => refuse .badParam s
    | some k =>
      match sweepRefusal s k x with
      | some c => refuse c s
      | none => startJob (newJob s k x) s

/-- The parameters from the twelve bytes of a SWEEP_START (R189, R190). -/
def sweepParams? : List Byte → Option SweepParams
  | [kind, f3, f2, f1, f0, l3, l2, l1, l0, targets, window, pattern] =>
    some { kind := jobKind? kind, first := number4 f3 f2 f1 f0, last := number4 l3 l2 l1 l0,
           targets := planesOfByte targets, window := window.toNat, pattern := pattern }
  | _ => none

/-- SWEEP_START (R89, R90). -/
def execSweepStart (params : List Byte) (s : State) : Host.Outcome State Fault Refusal :=
  runCommand 12 params (match sweepParams? params with | some x => sweepStartBody x | none => id) s

/-- SWEEP_ABORT by engine state (R108). Where a failure's own event both aborted the job and ended it (R104, R105, R107), a
SWEEP_ABORT taken next finds the engine IDLE or ENDING and is answered NOT_RUNNING (the model's choice: DESIGN CHOICE, log entry
28). -/
def abortBody (s : State) : State :=
  match s.sweep.engine with
  | .running => endOfEvent (postResult .done [] (enterAborting .abortedCommand s))
  | .aborting => postResult .done [] s
  | .idle | .ending => refuse .notRunning s

/-- SWEEP_ABORT (R108). -/
def execSweepAbort (params : List Byte) (s : State) : Host.Outcome State Fault Refusal := runCommand 0 params abortBody s

/-- The job record's bytes in SWEEP_STATUS, zeros before any job (R113, R191, R192). -/
def jobBytes : Option Job → List Byte
  | none => List.replicate 26 0
  | some j =>
    [j.id, j.kind.code, outcomeCode j.outcome] ++ bytes4 j.first ++ bytes4 j.last ++
      [planesByte j.targets, byte1 j.window, j.pattern] ++ bytes4 j.cursor ++ bytes4 j.linesDone ++ bytes2 j.mismatches ++
      bytes2 j.errors

/-- SWEEP_STATUS (R113). -/
def execSweepStatus (params : List Byte) (s : State) : Host.Outcome State Fault Refusal :=
  runCommand 0 params (fun s => postResult .done (s.sweep.engine.code :: jobBytes s.sweep.job) s) s

end Sys2Proof.Machine
end

