-- ==== Sys2Proof/Machine/Dispatch.lean ====
section
/-! DEFINITION. The dispatch of a command to its meaning: one arm for each row of spec/opcode_table.json. -/

namespace Sys2Proof.Machine

/-- The effect of a command on everything but the queue of waiting commands. -/
def exec (i : Instr) (s : State) : Host.Outcome State Fault Refusal :=
  match i with
  | .read tag line => Sys2Proof.Machine.execRead tag line s
  | .write tag line mask data => Sys2Proof.Machine.execWrite tag line mask data s
  | .unknownKindDiscard kind tag => Sys2Proof.Machine.execUnknownKindDiscard kind tag s
  | .responseTaken => Sys2Proof.Machine.execResponseTaken s
  | .hostChannelReset => Sys2Proof.Machine.execHostChannelReset s
  | .hrstRising => Sys2Proof.Machine.execHrstRising s
  | .powerOnReset => Sys2Proof.Machine.execPowerOnReset s
  | .lrdyRising plane => Sys2Proof.Machine.execLrdyRising plane s
  | .lrdyFalling plane => Sys2Proof.Machine.execLrdyFalling plane s
  | .readResponse plane slot gen status data => Sys2Proof.Machine.execReadResponse plane slot gen status data s
  | .writeResponse plane slot gen status => Sys2Proof.Machine.execWriteResponse plane slot gen status s
  | .planeTimeoutExpiry plane => Sys2Proof.Machine.execPlaneTimeoutExpiry plane s
  | .issue plane => Sys2Proof.Machine.execIssue plane s
  | .grant line => Sys2Proof.Machine.execGrant line s
  | .heldBackClaim tag => Sys2Proof.Machine.execHeldBackClaim tag s
  | .sweepClaim => Sys2Proof.Machine.execSweepClaim s
  | .abortEnd => Sys2Proof.Machine.execAbortEnd s
  | .jobComplete => Sys2Proof.Machine.execJobComplete s
  | .endingRecordPlaced => Sys2Proof.Machine.execEndingRecordPlaced s
  | .detachDrainEnd plane => Sys2Proof.Machine.execDetachDrainEnd plane s
  | .statusFrame bytes => Sys2Proof.Machine.execStatusFrame bytes s
  | .resultFrame bytes => Sys2Proof.Machine.execResultFrame bytes s
  | .completionFrame bytes => Sys2Proof.Machine.execCompletionFrame bytes s
  | .frameRejected frameType bytes => Sys2Proof.Machine.execFrameRejected frameType bytes s
  | .unknownCommand content => Sys2Proof.Machine.execUnknownCommand content s
  | .deviceQuery params => Sys2Proof.Machine.execDeviceQuery params s
  | .serviceSet params => Sys2Proof.Machine.execServiceSet params s
  | .geometrySet params => Sys2Proof.Machine.execGeometrySet params s
  | .planeStatus params => Sys2Proof.Machine.execPlaneStatus params s
  | .planeAdopt params => Sys2Proof.Machine.execPlaneAdopt params s
  | .planeDetach params => Sys2Proof.Machine.execPlaneDetach params s
  | .planeRelease params => Sys2Proof.Machine.execPlaneRelease params s
  | .regionSet params => Sys2Proof.Machine.execRegionSet params s
  | .regionGet params => Sys2Proof.Machine.execRegionGet params s
  | .policySetErrorLimit value => Sys2Proof.Machine.execPolicySetErrorLimit value s
  | .policySetPlaneTimeout value => Sys2Proof.Machine.execPolicySetPlaneTimeout value s
  | .policySetSweepShare value => Sys2Proof.Machine.execPolicySetSweepShare value s
  | .policySetLogMode value => Sys2Proof.Machine.execPolicySetLogMode value s
  | .policySetLogThreshold value => Sys2Proof.Machine.execPolicySetLogThreshold value s
  | .policySetAlertMask value => Sys2Proof.Machine.execPolicySetAlertMask value s
  | .policyGet params => Sys2Proof.Machine.execPolicyGet params s
  | .sweepStart params => Sys2Proof.Machine.execSweepStart params s
  | .sweepAbort params => Sys2Proof.Machine.execSweepAbort params s
  | .sweepStatus params => Sys2Proof.Machine.execSweepStatus params s
  | .logStatus params => Sys2Proof.Machine.execLogStatus params s
  | .logPeek params => Sys2Proof.Machine.execLogPeek params s
  | .logDrop params => Sys2Proof.Machine.execLogDrop params s
  | .logClear params => Sys2Proof.Machine.execLogClear params s
  | .suspectRead params => Sys2Proof.Machine.execSuspectRead params s
  | .suspectClear params => Sys2Proof.Machine.execSuspectClear params s
  | .suspectClearAll params => Sys2Proof.Machine.execSuspectClearAll params s
  | .alertQuery params => Sys2Proof.Machine.execAlertQuery params s
  | .alertAck params => Sys2Proof.Machine.execAlertAck params s
  | .unknownKindResponse plane slot gen kind status => Sys2Proof.Machine.execUnknownKindResponse plane slot gen kind status s
  | .powerOnResetEnd => Sys2Proof.Machine.execPowerOnResetEnd s

end Sys2Proof.Machine
end

