-- ==== Sys2Proof/Safety.lean ====
section
/-! DEFINITION. What a sound state of the part is: the ranges and relations the manual gives each table, register and queue between
two events. `Sound` holds of the reset state and is kept by every step. -/

namespace Sys2Proof.Machine

/-! ## Values with a range -/

/-- The policy values and the geometry code are in their ranges (R10, R20, R120, R141, R149). -/
abbrev PoliciesInRange (s : State) : Prop :=
  (1 ≤ s.errorLimit ∧ s.errorLimit ≤ 255) ∧ (2 ≤ s.planeTimeout ∧ s.planeTimeout ≤ 1023) ∧
    (1 ≤ s.sweepShare ∧ s.sweepShare ≤ 16) ∧ (1 ≤ s.log.threshold ∧ s.log.threshold ≤ 64) ∧ s.geometry ≤ 6

/-- Every region's range is a range of lines of the largest plane (R37, R43). -/
abbrev RegionsInRange (s : State) : Prop :=
  ∀ i : Fin 8, s.regions[i].base ≤ s.regions[i].limit ∧ s.regions[i].limit ≤ Config.lastLine

/-! ## Planes, service and the management port -/

/-- A failure cause is present exactly in FAILED, and the error count is in its range: below the highest limit while the plane is
in service (R1, R9). -/
abbrev PlanesSound (s : State) : Prop :=
  ∀ p : PlaneId, ((s.plane p).cause.isSome = true ↔ (s.plane p).state = .failed) ∧ (s.plane p).errorCount ≤ 255 ∧
    ((s.plane p).state.inService = true → (s.plane p).errorCount ≤ 254)

/-- Every link field stands at the level of its LRDY (R3, R142). -/
abbrev LinksFollowPins (s : State) : Prop := ∀ p : PlaneId, (s.plane p).link = linkOf s.pins.lrdy[p]

/-- While service is SERVING, at least one plane is ONLINE (R17). -/
abbrev ServiceBacked (s : State) : Prop := s.service = .serving → ∃ p : PlaneId, (s.plane p).state = .online

/-- COMMAND_BUSY is set exactly while a plane is DETACHING, there is at most one such plane, and the result buffer is empty then
(R12, R13, R170). -/
abbrev DetachTracked (s : State) : Prop :=
  (s.mgmt.busy = true ↔ ∃ p : PlaneId, (s.plane p).state = .detaching) ∧
    (∀ p q : PlaneId, (s.plane p).state = .detaching → (s.plane q).state = .detaching → p = q) ∧
    (s.mgmt.busy = true → s.mgmt.result = none)

/-- The frame in progress: none is taken while PRST# is low, the assembly buffer holds bytes of no other frame, and a result or a
record that it latched still stands where it was latched (R166, R172, R173, R182). -/
abbrev FramesSound (s : State) : Prop :=
  (s.pins.inReset = true → ∀ f ∈ s.mgmt.frame, f = .ignored) ∧
    (s.mgmt.assembly ≠ [] → ∃ f ∈ s.mgmt.frame, f ≠ .ignored) ∧
    (∀ b r, s.mgmt.frame = some (.taken b (.result (some r))) → s.mgmt.result = some r) ∧
    ∀ b c, s.mgmt.frame = some (.taken b (.completion (some c))) → s.sweep.completions.head? = some c

/-- No level cause is held among the sticky ones (R177). -/
abbrev StickyOnly (s : State) : Prop := s.sticky &&& (causeCompletion ||| causeLogLevel) = 0

/-! ## The log and the suspect table -/

/-- The sequence numbers of a run of records are consecutive and end just below `next` (R115, R118). -/
def seqsEndAt (next : BitVec 16) : List DivRec → Bool
  | [] => true
  | d :: ds => d.seq + BitVec.ofNat 16 (ds.length + 1) == next && seqsEndAt next ds

/-- The log's size, counts and sequence numbers (R115, R116, R118). -/
abbrev LogSound (s : State) : Prop :=
  s.log.records.length ≤ Config.logPlaces ∧ s.log.overflow ≤ Config.countCeiling ∧
    (∀ d ∈ s.log.records, 1 ≤ d.repeats ∧ d.repeats ≤ Config.repeatCeiling) ∧ seqsEndAt s.log.nextSeq s.log.records = true

/-- The suspect table's size, and one entry for a line at most (R125, R127). -/
abbrev SuspectsSound (s : State) : Prop :=
  s.suspects.length ≤ Config.suspectPlaces ∧ (s.suspects.map SuspectEntry.line).Nodup

/-! ## Plane ports -/

/-- The slots of a plane queue are consecutive modulo 16 and end just below `next`, and its ops carry the port's generation (R132,
R134). -/
def slotsEndAt (next : BitVec 4) (gen : BitVec 3) : List QueuedOp → Bool
  | [] => true
  | q :: qs => q.slot + BitVec.ofNat 4 (qs.length + 1) == next && q.gen == gen && slotsEndAt next gen qs

/-- Each port's queue is in its size, in slot and issue order, and none of its ops was issued later than now; the arbiter's counter
is in its range, and 0 while no sweep op waits (R132, R134, R146, R148). -/
abbrev PortsSound (s : State) : Prop :=
  ∀ p : PlaneId, (s.port p).queue.length ≤ Config.queuePlaces ∧
    slotsEndAt (s.port p).nextSlot (s.port p).gen (s.port p).queue = true ∧
    ((s.port p).queue.map QueuedOp.issuedAt).Pairwise (· ≤ ·) ∧
    (∀ q ∈ (s.port p).queue, q.issuedAt ≤ s.now) ∧ (s.port p).hostGrants ≤ 16 ∧
    ((s.port p).sweepList = [] → (s.port p).hostGrants = 0)

/-! ## The host channel -/

/-- A response stands in the queue for exactly the tags in QUEUED, once each, with the entry's kind and status (R154, R161). -/
abbrev ResponsesMatchTags (s : State) : Prop :=
  (s.responses.map Response.tag).Nodup ∧
    (∀ t : Tag, (∃ x ∈ s.responses, x.tag = t) ↔ ∃ r st, s.tag t = .queued r st) ∧
    ∀ x ∈ s.responses, ∀ r st, s.tag x.tag = .queued r st → x.kind = r.kind ∧ x.status = st

/-- The request assembly buffer holds less than a whole WRITE request, and nothing while the request path is not ready (R152, R163 to
R165). -/
abbrev AssemblySound (s : State) : Prop :=
  s.requestAssembly.length < 6 ∧ (requestReady s = false → s.requestAssembly = [])

/-! ## Line locks -/

/-- A claim of a sweep slot is a SWEEP claim, and a claim of a host position is none (R23). -/
abbrev Claim.kindFits (c : Claim) : Prop := c.kind = .sweep ↔ c.isSweep = true

/-- A lock entry between events: it has holders, a writer or a sweep line holds alone, and no READ waits at the head of the list
behind reading holders (R21, R24, R25). -/
abbrev LockEntry.sound (e : LockEntry) : Prop :=
  e.holders ≠ [] ∧ (e.kind = some .hostWrite ∨ e.kind = some .sweep → e.holders.length = 1) ∧ e.kind ≠ none ∧
    (e.kind = some .hostRead → ∀ c ∈ e.waiting.head?, c.kind ≠ .hostRead) ∧ ∀ c ∈ e.waiting, c.kindFits

/-- The lock table between events: one entry for a line at most, each sound; a held-back claim is a host's (R21 to R25, R35). -/
abbrev LocksSound (s : State) : Prop :=
  (s.locks.map LockEntry.line).Nodup ∧ (∀ e ∈ s.locks, e.sound) ∧
    ∀ t : Tag, ∀ c ∈ (s.position t).heldBack, c.kind ≠ .sweep

/-! ## The sweep engine -/

/-- The job record's ranges (R87, R90). -/
abbrev Job.sound (j : Job) : Prop :=
  j.first ≤ j.cursor ∧ j.cursor ≤ j.last + 1 ∧ (1 ≤ j.window ∧ j.window ≤ 4) ∧ j.mismatches ≤ Config.countCeiling ∧
    j.errors ≤ Config.countCeiling

/-- Engine state against job, slots and completion queue (R87, R88, R106, R110 to R112): a job in every state but the first IDLE, no
outcome while RUNNING, one while ABORTING; no slot in flight in IDLE and ENDING; a waiting record, and a full queue, exactly in
ENDING. -/
abbrev SweepSound (s : State) : Prop :=
  (s.sweep.engine ≠ .idle → s.sweep.job ≠ none) ∧
    (∀ j ∈ s.sweep.job, j.sound ∧ (s.sweep.engine = .running ↔ j.outcome = none)) ∧
    (s.sweep.engine = .idle ∨ s.sweep.engine = .ending → ∀ k : SlotId, s.slot k = none) ∧
    s.sweep.completions.length ≤ Config.completionPlaces ∧ (s.sweep.waiting.isSome = true ↔ s.sweep.engine = .ending) ∧
    (s.sweep.engine = .ending → s.sweep.completions.length = Config.completionPlaces)

/-! ## All of it -/

/-- A sound state. -/
structure Sound (s : State) : Prop where
  policies : PoliciesInRange s
  regions : RegionsInRange s
  planes : PlanesSound s
  links : LinksFollowPins s
  service : ServiceBacked s
  detach : DetachTracked s
  frames : FramesSound s
  sticky : StickyOnly s
  log : LogSound s
  suspects : SuspectsSound s
  ports : PortsSound s
  responses : ResponsesMatchTags s
  assembly : AssemblySound s
  locks : LocksSound s
  sweep : SweepSound s

/-! ## Names for statements -/

/-- The events of a frame are taken now: PRST# is high, and the frame in progress, if there is one, is not ignored (R166). -/
abbrev FrameTaken (s : State) : Prop := s.pins.inReset = false ∧ s.mgmt.frame ≠ some .ignored

/-- A COMMAND frame would pass check 1 of R170 now. -/
abbrev CommandReady (s : State) : Prop := FrameTaken s ∧ s.mgmt.busy = false ∧ s.mgmt.result = none

/-- The first MISO byte of a frame that ends now: the status byte captured at the start of the frame in progress, or the present one
where the frame starts and ends in one command (R166, R168). -/
def firstByte (s : State) : Byte :=
  match s.mgmt.frame with
  | some (.taken b _) => b
  | _ => statusByte s

/-- What the type byte of the frame in progress has latched; nothing where no frame is in progress. -/
def latchNow (s : State) : Latch :=
  match s.mgmt.frame with
  | some (.taken _ l) => l
  | _ => .nothing

/-- The state with a frame in progress whose start, and perhaps whose type byte, has been taken: nothing else differs (R166). -/
def opening (l : Latch) (s : State) : State :=
  { s with mgmt := { s.mgmt with frame := some (.taken (firstByte s) l) }, out := {} }

/-- The state with a frame of `n` complete bytes shifted through and ended: only the outputs, the frame in progress and the assembly
buffer differ (R166). -/
def framed (n : Nat) (content : List Byte) (s : State) : State :=
  { s with
    mgmt := { s.mgmt with frame := none, assembly := [] }
    out := { miso := padTo n (firstByte s :: content), response := none, ops := [] } }

/-- The management port with its frame ended and a result posted (R171). -/
def Mgmt.posted (m : Mgmt) (code : ResultCode) (payload : List Byte) : Mgmt :=
  { m with result := some { code := code, payload := payload }, busy := false, frame := none, assembly := [] }

/-- The state with a COMMAND frame of `n` complete bytes answered: the outputs, and the management port holding the result
(R171). -/
def answered (n : Nat) (code : ResultCode) (payload : List Byte) (s : State) : State :=
  { framed n [] s with mgmt := s.mgmt.posted code payload }

/-- The parameter length of a command code (R189). -/
def commandLength (code : Byte) : Option Nat :=
  match code.toNat with
  | 0x01 | 0x41 | 0x42 | 0x50 | 0x51 | 0x53 | 0x5A | 0x60 => some 0
  | 0x10 | 0x11 | 0x12 | 0x13 | 0x14 | 0x15 | 0x21 | 0x31 | 0x58 | 0x61 => some 1
  | 0x52 => some 2
  | 0x30 => some 3
  | 0x59 => some 4
  | 0x40 => some 12
  | 0x20 => some 16
  | _ => none

/-- No end of an abort (R107) and no end of a drain (R13) is due, as after every event of a run. -/
abbrev NothingDue (s : State) : Prop :=
  (∀ j ∈ s.sweep.job, s.sweep.engine = .aborting → noSlotInFlight s = false ∨ targetsDrained s j = false) ∧
    ∀ p : PlaneId, (s.plane p).state = .detaching → (s.port p).isEmpty = false

/-- A host request with this tag would be taken, and its claim placed at once: the request path is ready, the tag is FREE and the
host position is free (R156, R157, R22). -/
abbrev TagReady (s : State) (t : Tag) : Prop :=
  requestReady s = true ∧ s.tag t = .free ∧ s.position t = { kept := none, heldBack := none } ∧
    holdsLine s (.host t) = false

/-- A request of this line passes the range and service checks (R158). -/
abbrev LineServed (s : State) (line : Nat) : Prop := line < planeLines s ∧ s.service = .serving

/-- An op placed on this plane is issued in the same event, and no other with it: both lists are empty, the queue has room and the
link is UP (R147). -/
abbrev IssuesAtOnce (s : State) (p : PlaneId) : Prop :=
  (s.port p).hostList = [] ∧ (s.port p).sweepList = [] ∧ (s.port p).queue.length < Config.queuePlaces ∧
    (s.plane p).link = .up

/-- No op of these was issued longer ago than the plane timeout (R138). -/
abbrev InTime (s : State) (ops : List QueuedOp) : Prop := ∀ x ∈ ops, s.now ≤ x.issuedAt + s.planeTimeout

/-- The port with one op issued into it (R134). -/
def Port.withIssued (q : Port) (now : Nat) (op : Op) : Port :=
  { q with
    queue := q.queue ++ [{ op := op, slot := q.nextSlot, gen := q.gen, issuedAt := now }]
    nextSlot := q.nextSlot + 1 }

/-- `x` is the oldest op of plane `p`, and the op behind it is overdue (R139). -/
abbrev NextOverdue (s : State) (p : PlaneId) (x : QueuedOp) : Prop :=
  ∃ y ys, (s.port p).queue = x :: y :: ys ∧ s.planeTimeout < s.now - y.issuedAt

/-- No job is RUNNING that could put a SYNCING target ONLINE by its end (R109). -/
abbrev NoTargetWaits (s : State) : Prop := s.sweep.engine ≠ .running ∨ ∀ p : PlaneId, (s.plane p).state ≠ .syncing

/-- The command is an event that fails plane `p` with this cause, in a state where `p` is in service (R4, R137, R138); an OK
response does so where the op behind the one it ends is overdue (R139), and is taken here where its end brings no plane ONLINE
first. -/
def failsPlane (s : State) (p : PlaneId) : Instr → FailCause → Prop
  | .lrdyFalling q, .linkLost => q = p
  | .planeTimeoutExpiry q, .timeout =>
    q = p ∧ ∃ x ∈ (s.port p).queue.head?, s.planeTimeout < s.now - x.issuedAt ∨
      ∀ r : PlaneId, ∀ y ∈ (s.port r).queue.head?, x.issuedAt ≤ y.issuedAt
  | .readResponse q slot gen status _, .timeout =>
    q = p ∧ gen = (s.port p).gen ∧ status = 0x00 ∧ (s.plane p).state = .online ∧ NoTargetWaits s ∧
      ∃ x, x.slot = slot ∧ x.op.body = .read ∧ NextOverdue s p x
  | .writeResponse q slot gen status, .timeout =>
    q = p ∧ gen = (s.port p).gen ∧ status = 0x00 ∧ (s.plane p).state = .online ∧ NoTargetWaits s ∧
      ∃ x, x.slot = slot ∧ x.op.body ≠ .read ∧ NextOverdue s p x
  | .unknownKindResponse q _ gen kind _, .linkFault => q = p ∧ gen = (s.port p).gen ∧ namesKind kind = false
  | .readResponse q slot gen status _, .linkFault =>
    q = p ∧ gen = (s.port p).gen ∧
      ((status ≠ 0x00 ∧ status ≠ 0x01) ∨ ∀ x ∈ (s.port p).queue.head?, x.slot ≠ slot ∨ x.op.body ≠ .read)
  | .writeResponse q slot gen status, .linkFault =>
    q = p ∧ gen = (s.port p).gen ∧
      ((status ≠ 0x00 ∧ status ≠ 0x02) ∨ ∀ x ∈ (s.port p).queue.head?, x.slot ≠ slot ∨ x.op.body = .read)
  | _, _ => False

/-! ### The end of a plane's oldest op -/

/-- The line's only claim is that of this host position. -/
abbrev LineAlone (s : State) (t : Tag) (line : Nat) : Prop :=
  (s.locks.map LockEntry.line).Nodup ∧ (∃ e ∈ s.locks, e.line = line ∧ e.holders = [.host t] ∧ e.waiting = []) ∧
    ∀ e ∈ s.locks, .host t ∈ e.holders → e.line = line

/-- The event by which plane `p`'s oldest op `x` has this end: a matching response (R136), or, for PLANE_LOST, the fall of LRDY
(R142, R144). A READ response with an error may carry any data. -/
def endCommand (s : State) (p : PlaneId) (x : QueuedOp) (data : LineData) : OpEnd → Instr
  | .readOk d => .readResponse p x.slot (s.port p).gen 0x00 d
  | .dataError => .readResponse p x.slot (s.port p).gen 0x01 data
  | .writeOk => .writeResponse p x.slot (s.port p).gen 0x00
  | .writeError => .writeResponse p x.slot (s.port p).gen 0x02
  | .lost => .lrdyFalling p

/-- The cause with which an end fails its plane, if it does (R4); a DATA_ERROR does not below the error limit (R9). -/
def OpEnd.failure : OpEnd → Option FailCause
  | .lost => some .linkLost
  | .writeError => some .writeError
  | .readOk _ | .dataError | .writeOk => none

/-- Plane `p` is ONLINE, `x` is its oldest op, with none on its lists, and the event of this end brings nothing else with it: no
drain, no overdue op, no error limit, and with a failure no other op of the plane and no job. -/
abbrev OldestEnds (s : State) (p : PlaneId) (x : QueuedOp) (xs : List QueuedOp) (e : OpEnd) : Prop :=
  (s.plane p).state = .online ∧ (s.port p).queue = x :: xs ∧ (s.port p).hostList = [] ∧ (s.port p).sweepList = [] ∧
    InTime s xs ∧ NothingDue s ∧ (e = .dataError → (s.plane p).errorCount + 1 < s.errorLimit) ∧
    (e.failure ≠ none → xs = [] ∧ s.sweep.engine = .idle)

/-- The state with plane `p` and its port as the end of the oldest op leaves them: the op gone, a DATA_ERROR counted (R8), or the
plane FAILED and its port flushed (R6, R144). -/
def planeEnded (p : PlaneId) (xs : List QueuedOp) (e : OpEnd) (s : State) : State :=
  let failed := fun (c : FailCause) (link : Link) =>
    (s.setPlane p { s.plane p with state := .failed, cause := some c, link := link }).setPort p
      { queue := [], nextSlot := 0, gen := (s.port p).gen + 1, hostList := [], sweepList := [], hostGrants := 0 }
  let popped := s.setPort p { s.port p with queue := xs }
  match e with
  | .readOk _ | .writeOk => popped
  | .dataError => popped.setPlane p { s.plane p with errorCount := (s.plane p).errorCount + 1 }
  | .writeError => failed .writeError (s.plane p).link
  | .lost => { failed .linkLost .down with pins := { s.pins with lrdy := s.pins.lrdy.set p.val false p.isLt } }

/-- What a failure does after the end has reached the op's owner: the PLANE_FAILED record and cause, and service halted with the last
ONLINE plane (R6). -/
def failureEnded (p : PlaneId) (e : OpEnd) (s : State) : State :=
  match e.failure with
  | none => s
  | some c =>
    let posted := postRecord
      { kind := .planeFailed, origin := .plane c, line := none, planes := onePlane p, outcome := .failed } s
    { posted with
      service := if ∃ q, (s.plane q).state = .online then s.service else .halted
      sticky := posted.sticky ||| causePlaneFailed |||
        if (∃ q, (s.plane q).state = .online) ∨ s.service = .halted then 0 else causeServiceLost }

end Sys2Proof.Machine
end

