-- ==== Sys2Proof/Certificates/Slice0/Obligations.lean ====
section
/-! DEFINITION. The statements for the provers, from the numbered rules of spec/. -/

open Sys2Proof Sys2Proof.Machine

/-! ## The step, the commands and their encodings -/

/-- A step with a command at the front of the queue is that command's effect, with the queue's rest. -/
def Obligations.StepRunsFront : Prop :=
  ∀ (s : State) (c : Instr) (rest : List Instr), s.pending = c :: rest → step s = exec c { s with pending := rest }

/-- No command changes the queue of waiting commands. -/
def Obligations.QueueUntouched : Prop :=
  ∀ (c : Instr) (s t : State), exec c s = .next t → t.pending = s.pending

/-- A step on an empty queue (the model's choice, log entry 2): the expiry of the lowest-numbered plane whose oldest op has been
outstanding longer than the plane timeout, or else one microsecond passes and nothing else does. -/
def Obligations.IdleStep : Prop :=
  ∀ s : State, s.pending = [] →
    ((∀ p, overdue s p = false) → step s = .next { s with now := s.now + 1, out := {} }) ∧
      ∀ p : PlaneId, overdue s p = true → (∀ q : PlaneId, q < p → overdue s q = false) →
        step s = exec (.planeTimeoutExpiry p) s

/-- Every well-formed command runs in every state: no rule stops the part (the model's deduction, log entry 20). A term of the four
open rows that spells another row's word, which no event of the part is, is refused under one name (the model's choice, log
entry 9). -/
def Obligations.WellFormedRuns : Prop :=
  (∀ (i : Instr) (s : State), WellFormed i = true → ∃ t, exec i s = .next t) ∧
    (∀ (kind : Byte) (tag : Tag) (s : State), namesKind kind = true →
      exec (.unknownKindDiscard kind tag) s = .refused .notThisRow) ∧
    (∀ (p : PlaneId) (slot : BitVec 4) (gen : BitVec 3) (kind status : Byte) (s : State), namesKind kind = true →
      exec (.unknownKindResponse p slot gen kind status) s = .refused .notThisRow) ∧
    (∀ (t : Byte) (n : Nat) (s : State), namesFrameType t = true → exec (.frameRejected t n) s = .refused .notThisRow) ∧
    ∀ (content : List Byte) (s : State), isUnknownContent content = false →
      exec (.unknownCommand (.ended content)) s = .refused .notThisRow

/-- Decoding the bytes of a frame gives the command back, with every parameter byte. -/
def Obligations.FrameRoundTrip : Prop :=
  ∀ (i : Instr) (f : List Byte), WellFormed i = true → encodeFrame i = some f → decodeFrame f = some i

/-- Decoding the transfers of a request, or of a plane's response, gives it back and leaves what follows it; a READ response
carries data with status OK alone. -/
def Obligations.MessageRoundTrip : Prop :=
  (∀ (i : Instr) (f more : List Transfer), WellFormed i = true → encodeRequest i = some f →
    decodeRequest (f ++ more) = some (i, more)) ∧
  ∀ (p : PlaneId) (slot : BitVec 4) (gen : BitVec 3) (status : Byte) (more : List Transfer),
    (∀ data : LineData, status = 0x00 ∨ data = 0 → ∃ f, encodeResponse (.readResponse p slot gen status data) = some f ∧
      decodeResponse p (f ++ more) = some (.readResponse p slot gen status data, more)) ∧
    (∃ f, encodeResponse (.writeResponse p slot gen status) = some f ∧
      decodeResponse p (f ++ more) = some (.writeResponse p slot gen status, more)) ∧
    ∀ kind : Byte, namesKind kind = false → ∃ f, encodeResponse (.unknownKindResponse p slot gen kind status) = some f ∧
      decodeResponse p (f ++ more) = some (.unknownKindResponse p slot gen kind status, more)

/-- Whatever bytes a frame brings, they are one well-formed command that encodes to a frame of the same length. -/
def Obligations.DecodedFramesAreCommands : Prop :=
  ∀ (f : List Byte), f ≠ [] → ∃ i g, decodeFrame f = some i ∧ WellFormed i = true ∧ encodeFrame i = some g ∧
    g.length = f.length

/-- Words written out from the layouts of chapter 11 decode to the commands they stand for. -/
def Obligations.WireWords : Prop :=
  decodeRequest [0x0000032800002701#128] = some (.read 7 808, []) ∧
    decodeRequest [0x00000009#128] = some (.unknownKindDiscard 9 0, []) ∧
    decodeResponse 2 [0x005A02#128] = some (.writeResponse 2 10 5 0x00, []) ∧
    decodeResponse 1 [0x01F301#128] = some (.readResponse 1 3 7 0x01 0, []) ∧
    decodeFrame [0x01] = some (.statusFrame (.ended 1)) ∧
    decodeFrame [0x02, 0x14, 0x02] = some (.planeDetach [0x02]) ∧
    decodeFrame [0x02, 0x30, 0x01, 0x01, 0x2C] = some (.policySetPlaneTimeout [0x01, 0x2C]) ∧
    decodeFrame [0x02, 0x52, 0x01, 0xF4] = some (.logDrop [0x01, 0xF4]) ∧
    decodeFrame [0x02, 0x77, 0x01] = some (.unknownCommand (.ended [0x77, 0x01])) ∧
    decodeFrame [0x05] = some (.frameRejected 0x05 1)

/-! ## Sound states -/

/-- The state after reset is sound. -/
def Obligations.ResetSound : Prop := Sound State.reset

/-- Every step from a sound state gives a sound state. -/
def Obligations.StepKeepsSound : Prop := ∀ s t : State, Sound s → step s = .next t → Sound t

/-- Every step keeps each port's queue in its size and in slot, generation and issue order, and its arbiter's counter in its
range. -/
def Obligations.StepKeepsPorts : Prop :=
  ∀ s t : State, PoliciesInRange s ∧ PortsSound s → step s = .next t → PoliciesInRange t ∧ PortsSound t

/-- Every step keeps the lock table sound: one entry a line, compatible holders, no READ at the head behind reading holders. -/
def Obligations.StepKeepsLocks : Prop := ∀ s t : State, LocksSound s → step s = .next t → LocksSound t

/-- Every step keeps one response in the queue for each tag in QUEUED and for no other. -/
def Obligations.StepKeepsResponses : Prop :=
  ∀ s t : State, ResponsesMatchTags s → step s = .next t → ResponsesMatchTags t

/-- Every step keeps engine state, job, slots and completion queue in their relation. -/
def Obligations.StepKeepsSweep : Prop := ∀ s t : State, SweepSound s → step s = .next t → SweepSound t

/-- Every step keeps the log and the suspect table in their sizes, sequence numbers consecutive and one entry for a line; and it
keeps service backed by an ONLINE plane, the pending PLANE_DETACH with its one DETACHING plane, and the sticky causes apart from
the level causes. -/
def Obligations.StepKeepsTables : Prop :=
  (∀ s t : State, LogSound s ∧ SuspectsSound s → step s = .next t → LogSound t ∧ SuspectsSound t) ∧
  ∀ s t : State, ServiceBacked s ∧ DetachTracked s ∧ StickyOnly s → step s = .next t →
    ServiceBacked t ∧ DetachTracked t ∧ StickyOnly t

/-- All that follows from an event is done within it: whatever acts it begins with, the model's bound on their number leaves
none of them undone (log entry 23). -/
def Obligations.EventSettles : Prop :=
  ∀ (acts : List Act) (s : State), (performAll (actBound acts s) acts s).2 = []

/-! ## Frames of the management port -/

/-- A COMMAND frame while COMMAND_BUSY or RESULT_READY is set is discarded and sets REJECTED. Otherwise one with the wrong
number of parameter bytes for its code, or without a code byte, is answered BAD_LENGTH, one whose code names no command
UNKNOWN_COMMAND, and a POLICY_SET of the right length whose selector names no value BAD_PARAM. A COMMAND frame that is still
open (log entry 7) has its bytes assembled. Nothing else changes. -/
def Obligations.CommandChecks : Prop :=
  (∀ (i : Instr) (rest : List Byte) (s : State), WellFormed i = true → encodeFrame i = some (0x02 :: rest) →
    FrameTaken s → s.mgmt.busy = true ∨ s.mgmt.result ≠ none → exec i s = .next { framed (rest.length + 1) [] s with
      mgmt := { s.mgmt with rejected := true, frame := none, assembly := [] } }) ∧
  (∀ (content : List Byte) (s : State), FrameTaken s → exec (.unknownCommand (.stillOpen content)) s =
    .next { opening .nothing s with mgmt := { (opening .nothing s).mgmt with assembly := content } }) ∧
  ∀ s : State, CommandReady s →
    (∀ (i : Instr) (code : Byte) (params : List Byte) (n : Nat), WellFormed i = true →
      encodeFrame i = some (0x02 :: code :: params) → commandLength code = some n → params.length ≠ n →
        exec i s = .next (answered (params.length + 2) .badLength [] s)) ∧
    exec (.unknownCommand (.ended [])) s = .next (answered 1 .badLength [] s) ∧
    (∀ (code : Byte) (params : List Byte), commandLength code = none →
      exec (.unknownCommand (.ended (code :: params))) s =
        .next (answered (params.length + 2) .unknownCommand [] s)) ∧
    ∀ selector b1 b0 : Byte, 5 < selector.toNat →
      exec (.unknownCommand (.ended [0x30, selector, b1, b0])) s = .next (answered 5 .badParam [] s)

/-- No frame has an effect while PRST# is low, nor to its end if CS# fell then or it was in progress at the reset; that the model
lists no MISO byte of such a frame where it is driven after the reset is its choice (log entry 29). An empty frame has none. A
frame of no type sets REJECTED and changes nothing else, and every MISO byte after its first is zero. Every frame, ignored or
taken, leaves MISO driven while it is open and PRST# is high, and high-impedance at its end. -/
def Obligations.FramesIgnoredOrRejected : Prop :=
  (∀ (s : State) (n : Nat) (content : List Byte),
    (∀ i ∈ [Instr.statusFrame (.stillOpen n), .resultFrame (.stillOpen n), .completionFrame (.stillOpen n),
        .unknownCommand (.stillOpen content)],
      ∃ t, exec i s = .next t ∧ (misoDriven t = true ↔ s.pins.inReset = false)) ∧
    ∀ (i : Instr) (f : List Byte), WellFormed i = true → encodeFrame i = some f ∨ i = .statusFrame (.ended 0) →
      ∃ t, exec i s = .next t ∧ misoDriven t = false) ∧
  (∀ s : State, s.pins.inReset = true ∨ s.mgmt.frame = some .ignored →
    (∀ (i : Instr) (f : List Byte), WellFormed i = true → encodeFrame i = some f →
      exec i s = .next { s with out := {}, mgmt := { s.mgmt with frame := none } }) ∧
    ∀ (n : Nat) (content : List Byte),
      ∀ i ∈ [Instr.statusFrame (.stillOpen n), .resultFrame (.stillOpen n), .completionFrame (.stillOpen n),
          .unknownCommand (.stillOpen content)],
        exec i s = .next { s with out := {}, mgmt := { s.mgmt with frame := some .ignored } }) ∧
    ∀ s : State, FrameTaken s →
      exec (.statusFrame (.ended 0)) s = .next { s with out := {}, mgmt := { s.mgmt with frame := none, assembly := [] } } ∧
      ∀ (frameType : Byte) (n : Nat), namesFrameType frameType = false → 0 < n → exec (.frameRejected frameType n) s =
        .next { framed n [] s with mgmt := { s.mgmt with rejected := true, frame := none, assembly := [] } }

/-- A frame captures the status byte at its start. At its type byte a STATUS frame latches the status byte again, and a RESULT
frame the result; the first MISO byte and the latch stand whatever happens before the frame end. There a STATUS frame clears
REJECTED, and a RESULT frame removes the result it latched if the code byte was shifted out; one that latched NONE removes
nothing. Events not taken before come with the end, in one command (the model's choice, log entry 7). -/
def Obligations.StatusAndResultFrames : Prop :=
  ∀ (n : Nat) (s : State), 0 < n → FrameTaken s →
    exec (.statusFrame (.stillOpen 0)) s = .next (opening (latchNow s) s) ∧
    (latchNow s = .nothing → exec (.statusFrame (.stillOpen n)) s = .next (opening (.status (statusByte s)) s) ∧
      exec (.resultFrame (.stillOpen n)) s = .next (opening (.result s.mgmt.result) s)) ∧
    (∀ b, latchNow s = .status b ∨ latchNow s = .nothing ∧ statusByte s = b →
      exec (.statusFrame (.ended n)) s = .next { framed n [b] s with
        mgmt := { s.mgmt with rejected := false, frame := none, assembly := [] } }) ∧
    ∀ latched, latchNow s = .result latched ∨ latchNow s = .nothing ∧ s.mgmt.result = latched →
      (latched = none → exec (.resultFrame (.ended n)) s = .next (framed n [0xFF, 0x00] s)) ∧
      ∀ r, latched = some r →
        (n = 1 → exec (.resultFrame (.ended n)) s = .next (framed n [] s)) ∧
        (2 ≤ n → exec (.resultFrame (.ended n)) s =
          .next { framed n (r.code.code :: byte1 r.payload.length :: r.payload) s with
            mgmt := { s.mgmt with result := none, frame := none, assembly := [] } })

/-- A COMPLETION frame latches the head of the completion queue at its type byte. At its end it returns it, and removes it if its
indicator was shifted out; an ENDING engine then places its waiting record and becomes IDLE. A frame that latched an empty queue
changes nothing, whatever joined the queue since. -/
def Obligations.CompletionFrames : Prop :=
  ∀ (n : Nat) (s : State) (latched : Option CompletionRec), 0 < n → FrameTaken s →
    (latchNow s = .nothing →
      exec (.completionFrame (.stillOpen n)) s = .next (opening (.completion s.sweep.completions.head?) s)) ∧
    (latchNow s = .completion latched ∨ latchNow s = .nothing ∧ s.sweep.completions.head? = latched →
    (latched = none → exec (.completionFrame (.ended n)) s = .next (framed n [0x00] s)) ∧
    ∀ c rest, latched = some c → s.sweep.completions = c :: rest →
      let content := [0x01, c.id, c.kind.code, c.outcome.code] ++ bytes4 c.linesDone ++ bytes2 c.mismatches ++
        bytes2 c.errors ++ bytes4 c.finalCursor
      (n = 1 → exec (.completionFrame (.ended n)) s = .next (framed n [] s)) ∧
      (2 ≤ n → s.sweep.engine ≠ .ending → exec (.completionFrame (.ended n)) s =
        .next { framed n content s with sweep := { s.sweep with completions := rest } }) ∧
      ∀ w, 2 ≤ n → s.sweep.engine = .ending → s.sweep.waiting = some w → rest.length < 4 →
        exec (.completionFrame (.ended n)) s = .next { framed n content s with
          sweep := { s.sweep with completions := rest ++ [w], waiting := none, engine := .idle } })

/-! ## Commands that change nothing -/

/-- ALERT_QUERY, DEVICE_QUERY and the status commands of the log and the engine return what they report and change nothing. -/
def Obligations.StatusQueries : Prop :=
  ∀ s : State, CommandReady s →
    exec (.alertQuery []) s =
      .next (answered 2 .done [(s.sticky ||| levelCauses s).setWidth 8, s.alertMask.setWidth 8] s) ∧
    exec (.deviceQuery []) s = .next (answered 2 .done
      ([s.service.code, byte1 s.geometry, (s.plane 0).state.code, (s.plane 1).state.code, (s.plane 2).state.code,
        (s.plane 3).state.code, s.sweep.engine.code, byte1 s.log.records.length, byte1 s.suspects.length,
        byte1 s.sweep.completions.length] ++
        match s.protoErr with
        | none => [0, 0, 0]
        | some e => [1, byte1 e.tag.val, e.kind]) s) ∧
    exec (.logStatus []) s = .next (answered 2 .done
      ([byte1 s.log.records.length] ++ bytes2 s.log.overflow ++ bytes2 s.log.nextSeq.toNat ++ [s.log.mode.code]) s) ∧
    (s.sweep.job = none → exec (.sweepStatus []) s =
      .next (answered 2 .done (s.sweep.engine.code :: List.replicate 26 0) s)) ∧
    ∀ j, s.sweep.job = some j → exec (.sweepStatus []) s = .next (answered 2 .done
      ([s.sweep.engine.code, j.id, j.kind.code, (j.outcome.map JobOutcome.code).getD 0] ++ bytes4 j.first ++ bytes4 j.last ++
        [j.targets.setWidth 8, byte1 j.window, j.pattern] ++ bytes4 j.cursor ++ bytes4 j.linesDone ++ bytes2 j.mismatches ++
        bytes2 j.errors) s)

/-- PLANE_STATUS, REGION_GET and SUSPECT_READ return the named entry as it stands, refuse a name out of range with BAD_PARAM,
and change nothing. -/
def Obligations.IndexedQueries : Prop :=
  ∀ (b : Byte) (s : State), CommandReady s →
    (∀ p : PlaneId, b.toNat = p.val → exec (.planeStatus [b]) s = .next (answered 3 .done
      [(s.plane p).state.code, (s.plane p).link.code, byte1 (s.plane p).errorCount,
        ((s.plane p).cause.map FailCause.code).getD 0] s)) ∧
    (3 < b.toNat → exec (.planeStatus [b]) s = .next (answered 3 .badParam [] s)) ∧
    (∀ i : Fin 8, b.toNat = i.val → exec (.regionGet [b]) s = .next (answered 3 .done
      ([flagByte s.regions[i].valid] ++ bytes4 s.regions[i].base ++ bytes4 s.regions[i].limit ++
        attrBytes s.regions[i].attrs) s)) ∧
    (b = 8 → exec (.regionGet [b]) s = .next (answered 3 .done (List.replicate 9 0 ++ attrBytes s.defaultAttrs) s)) ∧
    (8 < b.toNat → exec (.regionGet [b]) s = .next (answered 3 .badParam [] s)) ∧
    (∀ e, b.toNat ≤ 15 → s.suspects[b.toNat]? = some e → exec (.suspectRead [b]) s = .next (answered 3 .done
      (bytes4 e.line ++ [e.reason.code, e.planes.setWidth 8]) s)) ∧
    (b.toNat ≤ 15 → s.suspects.length ≤ b.toNat → exec (.suspectRead [b]) s = .next (answered 3 .empty [] s)) ∧
    (15 < b.toNat → exec (.suspectRead [b]) s = .next (answered 3 .badParam [] s))

/-- POLICY_GET returns the selector and the value stored, in two bytes, and changes nothing; a selector of no value is
BAD_PARAM. -/
def Obligations.PolicyGetAnswers : Prop :=
  ∀ s : State, CommandReady s →
    exec (.policyGet [0]) s = .next (answered 3 .done (0 :: bytes2 s.errorLimit) s) ∧
    exec (.policyGet [1]) s = .next (answered 3 .done (1 :: bytes2 s.planeTimeout) s) ∧
    exec (.policyGet [2]) s = .next (answered 3 .done (2 :: bytes2 s.sweepShare) s) ∧
    exec (.policyGet [3]) s = .next (answered 3 .done [3, 0, s.log.mode.code] s) ∧
    exec (.policyGet [4]) s = .next (answered 3 .done (4 :: bytes2 s.log.threshold) s) ∧
    exec (.policyGet [5]) s = .next (answered 3 .done [5, 0, s.alertMask.setWidth 8] s) ∧
    ∀ b : Byte, 5 < b.toNat → exec (.policyGet [b]) s = .next (answered 3 .badParam [] s)

/-- LOG_PEEK returns the oldest record with its presence byte, absent fields zero, or EMPTY, and changes nothing. -/
def Obligations.LogPeekAnswers : Prop :=
  ∀ s : State, CommandReady s →
    (s.log.records = [] → exec (.logPeek []) s = .next (answered 2 .empty [] s)) ∧
    ∀ d ds, s.log.records = d :: ds → exec (.logPeek []) s = .next (answered 2 .done
      (bytes2 d.seq.toNat ++ [d.body.kind.code, d.body.origin.code,
        (if d.body.line.isSome then 1 else 0) ||| match d.body.origin with
          | .host _ _ => 6
          | .sweep _ => 8
          | .plane _ => 0x10] ++
        bytes4 (d.body.line.getD 0) ++ [d.body.planes.setWidth 8, d.body.outcome.code] ++
        (match d.body.origin with
          | .host t region => [byte1 t.val, byte1 region.val, 0, 0]
          | .sweep job => [0, 0, job, 0]
          | .plane cause => [0, 0, 0, cause.code]) ++ [byte1 d.repeats]) s)

/-! ## Commands that set something -/

/-- SERVICE_SET on needs an ONLINE plane, SERVICE_SET off does not; GEOMETRY_SET needs a code 0 to 6, service HALTED, no plane
in service and the engine IDLE, and empties the suspect table. Nothing else changes. -/
def Obligations.ServiceAndGeometry : Prop :=
  ∀ (b : Byte) (s : State), CommandReady s →
    ((∃ p, (s.plane p).state = .online) →
      exec (.serviceSet [1]) s = .next { answered 3 .done [] s with service := .serving }) ∧
    ((∀ p, (s.plane p).state ≠ .online) → exec (.serviceSet [1]) s = .next (answered 3 .noSource [] s)) ∧
    exec (.serviceSet [0]) s = .next { answered 3 .done [] s with service := .halted } ∧
    (b ≠ 0 → b ≠ 1 → exec (.serviceSet [b]) s = .next (answered 3 .badParam [] s)) ∧
    (6 < b.toNat → exec (.geometrySet [b]) s = .next (answered 3 .badParam [] s)) ∧
    (b.toNat ≤ 6 → s.service = .serving ∨ (∃ p, (s.plane p).state.inService = true) ∨ s.sweep.engine ≠ .idle →
      exec (.geometrySet [b]) s = .next (answered 3 .conflict [] s)) ∧
    (b.toNat ≤ 6 → s.service = .halted → (∀ p, (s.plane p).state.inService = false) → s.sweep.engine = .idle →
      exec (.geometrySet [b]) s = .next { answered 3 .done [] s with geometry := b.toNat, suspects := [] })

/-- PLANE_ADOPT makes an OFFLINE plane with its link UP ONLINE where no plane is in service and the engine is IDLE;
PLANE_RELEASE makes a FAILED plane OFFLINE and removes its cause. The checks are made in the manual's order, and nothing else
changes. -/
def Obligations.PlaneAdoptAndRelease : Prop :=
  ∀ (b : Byte) (s : State), CommandReady s →
    (3 < b.toNat → exec (.planeAdopt [b]) s = .next (answered 3 .badParam [] s) ∧
      exec (.planeRelease [b]) s = .next (answered 3 .badParam [] s)) ∧
    ∀ p : PlaneId, b.toNat = p.val →
      ((s.plane p).state ≠ .offline ∨ (∃ q, (s.plane q).state.inService = true) ∨ s.sweep.engine ≠ .idle →
        exec (.planeAdopt [b]) s = .next (answered 3 .conflict [] s)) ∧
      ((s.plane p).state = .offline → (∀ q, (s.plane q).state.inService = false) → s.sweep.engine = .idle →
        ((s.plane p).link = .down → exec (.planeAdopt [b]) s = .next (answered 3 .linkDown [] s)) ∧
        ((s.plane p).link = .up → exec (.planeAdopt [b]) s =
          .next ((answered 3 .done [] s).setPlane p { s.plane p with state := .online, errorCount := 0 }))) ∧
      ((s.plane p).state ≠ .failed → exec (.planeRelease [b]) s = .next (answered 3 .conflict [] s)) ∧
      ((s.plane p).state = .failed → exec (.planeRelease [b]) s =
        .next ((answered 3 .done [] s).setPlane p { s.plane p with state := .offline, cause := none }))

/-- PLANE_DETACH refuses a plane that is not ONLINE and the last ONLINE plane. Accepted, it leaves COMMAND_BUSY set and the
plane DETACHING while the plane holds ops, and makes it OFFLINE with DONE at once where it holds none. Nothing else changes. -/
def Obligations.PlaneDetachAnswers : Prop :=
  ∀ (b : Byte) (s : State), CommandReady s → NothingDue s → (∀ q, (s.plane q).state ≠ .detaching) →
    (3 < b.toNat → exec (.planeDetach [b]) s = .next (answered 3 .badParam [] s)) ∧
    ∀ p : PlaneId, b.toNat = p.val →
      ((s.plane p).state ≠ .online → exec (.planeDetach [b]) s = .next (answered 3 .conflict [] s)) ∧
      ((s.plane p).state = .online → (∀ q, q ≠ p → (s.plane q).state ≠ .online) →
        exec (.planeDetach [b]) s = .next (answered 3 .lastCopy [] s)) ∧
      ((s.plane p).state = .online → (∃ q, q ≠ p ∧ (s.plane q).state = .online) →
        ((s.port p).isEmpty = false → exec (.planeDetach [b]) s =
          .next { (framed 3 [] s).setPlane p { s.plane p with state := .detaching } with
            mgmt := { s.mgmt with busy := true, frame := none, assembly := [] } }) ∧
        ((s.port p).isEmpty = true → exec (.planeDetach [b]) s =
          .next ((answered 3 .done [] s).setPlane p { s.plane p with state := .offline })))

/-- REGION_SET replaces the whole named entry, the default entry its five attributes, with every byte the manual ignores left
unread; any parameter that fails its check is BAD_PARAM and changes nothing. -/
def Obligations.RegionSetAnswers : Prop :=
  ∀ (s : State), CommandReady s →
    (∀ (i : Fin 8) (v : Bool) (base limit : Nat) (a : Attrs) (plane : Byte), base ≤ limit → limit ≤ 67108863 →
      a.readSelect = .rotate ∨ plane = a.readSelect.planeByte →
        exec (.regionSet ([byte1 i.val, flagByte v] ++ bytes4 base ++ bytes4 limit ++
            [a.readMode.code, a.readSelect.code, plane, flagByte a.repair, a.ack.code, flagByte a.protect])) s =
          .next { answered 18 .done [] s with
            regions := s.regions.set i.val { valid := v, base := base, limit := limit, attrs := a } i.isLt }) ∧
    (∀ (ignored : List Byte) (a : Attrs) (plane : Byte), ignored.length = 9 →
      a.readSelect = .rotate ∨ plane = a.readSelect.planeByte →
        exec (.regionSet ([8] ++ ignored ++
            [a.readMode.code, a.readSelect.code, plane, flagByte a.repair, a.ack.code, flagByte a.protect])) s =
          .next { answered 18 .done [] s with defaultAttrs := a }) ∧
    ∀ index valid b3 b2 b1 b0 l3 l2 l1 l0 mode select plane repair ack protect : Byte,
      (8 < index.toNat ∨ 1 < mode.toNat ∨ 1 < select.toNat ∨ 1 < repair.toNat ∨ 1 < ack.toNat ∨ 1 < protect.toNat ∨
        (select = 1 ∧ 3 < plane.toNat) ∨
        (index.toNat < 8 ∧ (1 < valid.toNat ∨ number4 l3 l2 l1 l0 < number4 b3 b2 b1 b0 ∨
          67108863 < number4 l3 l2 l1 l0 ∨ 67108863 < number4 b3 b2 b1 b0))) →
        exec (.regionSet [index, valid, b3, b2, b1, b0, l3, l2, l1, l0, mode, select, plane, repair, ack, protect]) s =
          .next (answered 18 .badParam [] s)

/-- POLICY_SET stores a value in its selector's range, taken as one two-byte number, and answers any other with BAD_PARAM; an
alert mask is always stored, less the positions that name no cause. Nothing else changes, but that every ONLINE plane whose
oldest op is older than a lowered plane timeout fails with TIMEOUT at once. -/
def Obligations.PolicySetAnswers : Prop :=
  ∀ (hi lo : Byte) (s : State), CommandReady s →
    let v := hi.toNat * 256 + lo.toNat
    exec (.policySetErrorLimit [hi, lo]) s = .next
      (if 1 ≤ v ∧ v ≤ 255 then { answered 5 .done [] s with errorLimit := v } else answered 5 .badParam [] s) ∧
    let within := fun p : PlaneId => ∀ x ∈ (s.port p).queue.head?, s.now ≤ x.issuedAt + v
    (¬(2 ≤ v ∧ v ≤ 1023) → exec (.policySetPlaneTimeout [hi, lo]) s = .next (answered 5 .badParam [] s)) ∧
    (2 ≤ v → v ≤ 1023 →
      (s.planeTimeout ≤ v ∨ (∀ p, within p) →
        exec (.policySetPlaneTimeout [hi, lo]) s = .next { answered 5 .done [] s with planeTimeout := v }) ∧
      (v < s.planeTimeout → ∃ t, exec (.policySetPlaneTimeout [hi, lo]) s = .next t ∧ t.planeTimeout = v ∧ t.now = s.now ∧
        t.out.miso = padTo 5 [firstByte s] ∧
        ∀ p, (s.plane p).state = .online → (within p → (t.plane p).state = .online) ∧
          (¬within p → t.plane p = { s.plane p with state := .failed, cause := some .timeout } ∧
            t.port p = { queue := [], nextSlot := 0, gen := (s.port p).gen + 1, hostList := [], sweepList := []
                         hostGrants := 0 }))) ∧
    exec (.policySetSweepShare [hi, lo]) s = .next
      (if 1 ≤ v ∧ v ≤ 16 then { answered 5 .done [] s with sweepShare := v } else answered 5 .badParam [] s) ∧
    exec (.policySetLogThreshold [hi, lo]) s = .next
      (if 1 ≤ v ∧ v ≤ 64 then { answered 5 .done [] s with log := { s.log with threshold := v } }
      else answered 5 .badParam [] s) ∧
    exec (.policySetLogMode [hi, lo]) s = .next
      (if v = 0 then { answered 5 .done [] s with log := { s.log with mode := .keepOldest } }
      else if v = 1 then { answered 5 .done [] s with log := { s.log with mode := .keepNewest } }
      else answered 5 .badParam [] s) ∧
    exec (.policySetAlertMask [hi, lo]) s = .next { answered 5 .done [] s with alertMask := lo.setWidth 7 }

/-- LOG_DROP removes the oldest record if it has the seq named, and answers EMPTY or STALE otherwise; LOG_CLEAR empties the log
and sets its overflow count to 0, keeping next seq, mode and threshold. Nothing else changes. -/
def Obligations.LogRemovals : Prop :=
  ∀ (hi lo : Byte) (s : State), CommandReady s →
    (s.log.records = [] → exec (.logDrop [hi, lo]) s = .next (answered 4 .empty [] s)) ∧
    (∀ d ds, s.log.records = d :: ds →
      (d.seq = hi ++ lo → exec (.logDrop [hi, lo]) s =
        .next { answered 4 .done [] s with log := { s.log with records := ds } }) ∧
      (d.seq ≠ hi ++ lo → exec (.logDrop [hi, lo]) s = .next (answered 4 .stale [] s))) ∧
    exec (.logClear []) s = .next { answered 2 .done [] s with log := { s.log with records := [], overflow := 0 } }

/-- SUSPECT_CLEAR removes the entry of the line named, or answers NOT_FOUND, or BAD_PARAM for a line no plane has;
SUSPECT_CLEAR_ALL empties the table. ALERT_ACK removes the sticky causes it names from the pending set and leaves the level
causes. Nothing else changes. -/
def Obligations.SuspectAndAlertRemovals : Prop :=
  ∀ (line : LineWord) (b : Byte) (s : State), CommandReady s →
    (67108863 < line.toNat → exec (.suspectClear (bytes4 line.toNat)) s = .next (answered 6 .badParam [] s)) ∧
    (line.toNat ≤ 67108863 → (∃ e ∈ s.suspects, e.line = line.toNat) → exec (.suspectClear (bytes4 line.toNat)) s =
      .next { answered 6 .done [] s with suspects := s.suspects.filter fun e => e.line != line.toNat }) ∧
    (line.toNat ≤ 67108863 → (∀ e ∈ s.suspects, e.line ≠ line.toNat) →
      exec (.suspectClear (bytes4 line.toNat)) s = .next (answered 6 .notFound [] s)) ∧
    exec (.suspectClearAll []) s = .next { answered 2 .done [] s with suspects := [] } ∧
    ∃ t, exec (.alertAck [b]) s = .next t ∧ t = { answered 3 .done [] s with sticky := t.sticky } ∧
      pendingCauses t = (s.sticky &&& ~~~(b.setWidth 7)) ||| levelCauses s

/-- With no plane DETACHING, SWEEP_ABORT moves a RUNNING job to ABORTING with outcome ABORTED_COMMAND; ends it in the same event
where no slot is in flight and its SYNCING targets are drained, its record placed or, with the completion queue full, waiting in
ENDING; changes nothing but the result in ABORTING; and answers NOT_RUNNING in IDLE and ENDING. For an abort taken right after a
failure whose own event both aborted and ended the job, NOT_RUNNING is the model's choice (log entry 28): R108's text says DONE in
either order. -/
def Obligations.SweepAbortAnswers : Prop :=
  ∀ s : State, CommandReady s → (∀ q, (s.plane q).state ≠ .detaching) →
    (s.sweep.engine = .idle ∨ s.sweep.engine = .ending →
      exec (.sweepAbort []) s = .next (answered 2 .notRunning [] s)) ∧
    (s.sweep.engine = .aborting → exec (.sweepAbort []) s = .next (answered 2 .done [] s)) ∧
    ∀ j, s.sweep.engine = .running → s.sweep.job = some j →
      (noSlotInFlight s = false ∨ targetsDrained s j = false → exec (.sweepAbort []) s = .next { answered 2 .done [] s with
        sweep := { s.sweep with engine := .aborting, job := some { j with outcome := some .abortedCommand } } }) ∧
      (noSlotInFlight s = true → targetsDrained s j = true →
        let c : CompletionRec := ⟨j.id, j.kind, .abortedCommand, j.linesDone, j.mismatches, j.errors, j.cursor⟩
        ∃ t, exec (.sweepAbort []) s = .next t ∧ t = { answered 2 .done [] s with planes := t.planes, sweep := t.sweep } ∧
          (s.sweep.completions.length < 4 → t.sweep = { s.sweep with
            engine := .idle, job := some { j with outcome := some .abortedCommand }
            completions := s.sweep.completions ++ [c] }) ∧
          (4 ≤ s.sweep.completions.length → t.sweep = { s.sweep with
            engine := .ending, job := some { j with outcome := some .abortedCommand }, waiting := some c }) ∧
          ∀ p : PlaneId, t.plane p =
            if inSet j.targets p = true ∧ (s.plane p).state = .syncing then { s.plane p with state := .offline }
            else s.plane p)

/-- The parameter bytes of a SWEEP_START (R189). -/
def sweepStartBytes (kind : Byte) (first last : LineWord) (targets window pattern : Byte) : List Byte :=
  [kind] ++ bytes4 first.toNat ++ bytes4 last.toNat ++ [targets, window, pattern]

/-- A SWEEP_START that fails a check is answered by the first check it fails, in the order of R89, and changes nothing. -/
def Obligations.SweepStartRefusals : Prop :=
  ∀ (kind : Byte) (first last : LineWord) (targets window pattern : Byte) (s : State), CommandReady s →
    let run := exec (.sweepStart (sweepStartBytes kind first last targets window pattern)) s
    let copies := kind = 1 ∨ kind = 2
    let compares := kind = 3 ∨ kind = 4
    let named := fun p : PlaneId => targets.getLsbD p.val = true
    (s.sweep.engine ≠ .idle → run = .next (answered 14 .busy [] s)) ∧
    (s.sweep.engine = .idle → ¬(copies ∨ compares) ∨ window.toNat < 1 ∨ 4 < window.toNat →
      run = .next (answered 14 .badParam [] s)) ∧
    (s.sweep.engine = .idle → 1 ≤ window.toNat → window.toNat ≤ 4 →
      (compares → last.toNat < first.toNat ∨ planeLines s ≤ last.toNat → run = .next (answered 14 .badParam [] s)) ∧
      (compares → first.toNat ≤ last.toNat → last.toNat < planeLines s → (∀ p, (s.plane p).state ≠ .online) →
        run = .next (answered 14 .noSource [] s)) ∧
      (copies → (∀ p, ¬named p) ∨ (∃ p, named p ∧ (s.plane p).state ≠ .offline) →
        run = .next (answered 14 .conflict [] s)) ∧
      (copies → (∃ p, named p) → (∀ p, named p → (s.plane p).state = .offline) →
        ((∃ p, named p ∧ (s.plane p).link = .down) → run = .next (answered 14 .linkDown [] s)) ∧
        ((∀ p, named p → (s.plane p).link = .up) →
          (kind = 1 → (∀ p, (s.plane p).state ≠ .online) → run = .next (answered 14 .noSource [] s)) ∧
          (kind = 2 → (∃ p, (s.plane p).state.inService = true) ∨ s.service = .serving →
            run = .next (answered 14 .conflict [] s)))))

/-- A SWEEP_START that passes the checks of R89 is accepted: the result DONE with the new job id, the job record of R90, and each
target SYNCING with error count 0 and no cause; a VERIFY or SCRUB leaves every plane record as it was. The engine is RUNNING, and
its first claims fill the window: each line from first on takes the next slot and holds its line, or waits for it, and the cursor
stands above them, no line done, no count, no outcome, unless a line of a VERIFY or SCRUB among them is suspect. A line granted at
once places its ops on the sweep lists, from which arbiters may issue them: a REBUILD the read of the lowest-numbered ONLINE
plane, a FILL the write of the pattern to every target, a VERIFY or SCRUB the read of every ONLINE plane; a line that waits places
none, and its slot holds the line alone. Where no sweep slot holds a line, only planes, locks, ports, engine, management port and
outputs may differ. -/
def Obligations.SweepStartAccepted : Prop :=
  ∀ (kind : Byte) (k : JobKind) (first last : LineWord) (targets window pattern : Byte) (s : State), CommandReady s →
    SweepSound s → s.sweep.engine = .idle → kind = k.code → 1 ≤ window.toNat → window.toNat ≤ 4 →
    (k = .verify ∨ k = .scrub → first.toNat ≤ last.toNat ∧ last.toNat < planeLines s) →
    (k = .rebuild ∨ k = .fill → (∃ p : PlaneId, targets.getLsbD p.val = true) ∧
      ∀ p : PlaneId, targets.getLsbD p.val = true → (s.plane p).state = .offline ∧ (s.plane p).link = .up) →
    (k ≠ .fill → ∃ p, (s.plane p).state = .online) →
    (k = .fill → (∀ p, (s.plane p).state.inService = false) ∧ s.service = .halted) →
      ∃ t, exec (.sweepStart (sweepStartBytes kind first last targets window pattern)) s = .next t ∧
        t.mgmt = s.mgmt.posted .done [s.sweep.jobCounter + 1] ∧ t.sweep.jobCounter = s.sweep.jobCounter + 1 ∧
        ∃ j, t.sweep.job = some j ∧ j.id = s.sweep.jobCounter + 1 ∧ j.kind = k ∧
        j.window = window.toNat ∧
        (k = .verify ∨ k = .scrub → j.first = first.toNat ∧ j.last = last.toNat ∧ j.targets = 0 ∧ j.pattern = 0) ∧
        (k = .rebuild ∨ k = .fill → j.first = 0 ∧ j.last = planeLines s - 1 ∧ j.targets = targets.setWidth 4 ∧
          j.pattern = (if k = .fill then pattern else 0) ∧
          ∀ p : PlaneId, t.plane p = if targets.getLsbD p.val = true then
            { s.plane p with state := .syncing, errorCount := 0, cause := none } else s.plane p) ∧
        (k = .verify ∨ k = .scrub → t.planes = s.planes) ∧ j.mismatches = 0 ∧ j.errors = 0 ∧
        (let claims := min window.toNat (j.last + 1 - j.first);
          (k = .verify ∨ k = .scrub → ∀ x ∈ s.suspects, x.line < j.first ∨ j.first + claims ≤ x.line) →
            t.sweep.engine = .running ∧ t.sweep.waiting = none ∧ t.sweep.completions = s.sweep.completions ∧
            j.cursor = j.first + claims ∧ j.linesDone = 0 ∧ j.outcome = none ∧
            ∃ (g : PlaneSet) (granted : List SlotId), granted.Nodup ∧
              (∀ m : SlotId, m ∈ granted ↔ m.val < claims ∧ ∀ e ∈ s.locks, e.line ≠ j.first + m.val) ∧
              (k = .rebuild → ∀ q : PlaneId, inSet g q = true ↔
                (s.plane q).state = .online ∧ ∀ v : PlaneId, (s.plane v).state = .online → q ≤ v) ∧
              (k = .fill → ∀ q : PlaneId, inSet g q = true ↔ targets.getLsbD q.val = true) ∧
              (k = .verify ∨ k = .scrub → ∀ q : PlaneId, inSet g q = true ↔ (s.plane q).state = .online) ∧
              (∀ m : SlotId,
                (claims ≤ m.val → t.slot m = none) ∧
                (m ∈ granted → t.slot m = some (if k = .fill then { line := j.first + m.val, writesOut := g }
                    else { line := j.first + m.val, tried := g, outstanding := g }) ∧
                  ∃ e ∈ t.locks, e.line = j.first + m.val ∧ e.holders = [.slot m] ∧ e.kind = some .sweep) ∧
                (m.val < claims → m ∉ granted → t.slot m = some { line := j.first + m.val } ∧
                  ∃ e ∈ t.locks, e.line = j.first + m.val ∧ { pos := .slot m, kind := .sweep } ∈ e.waiting)) ∧
              ∀ q : PlaneId, ((t.port q).allOps.Perm ((s.port q).allOps ++ if inSet g q = true then granted.map fun m =>
                  { owner := .slot m, line := j.first + m.val
                    body := if k = .fill then .write (BitVec.allOnes 64) (pattern.replicate 64) else .read } else [])) ∧
                (t.port q).hostList <:+ (s.port q).hostList ∧ (s.port q).queue <+: (t.port q).queue) ∧
        ((∀ m : SlotId, holdsLine s (.slot m) = false) → t = { s with
          planes := t.planes, locks := t.locks, ports := t.ports, sweep := t.sweep, mgmt := t.mgmt, out := t.out })

/-! ## The host channel -/

/-- A request of a line at or above L, then one arriving while service is HALTED, then a WRITE whose attributes have protect ON,
is answered at its acceptance: no claim, no op, and a WRITE_REFUSED record for the last alone. -/
def Obligations.AnsweredAtAcceptance : Prop :=
  ∀ (t : Tag) (line : LineWord) (mask : ByteMask) (data : LineData) (s : State), requestReady s = true → s.tag t = .free →
    let at_ := fun (kind : ReqKind) (copied : Option RegionCopy) (st : Status) =>
      { s.setTag t (.queued { kind := kind, line := line.toNat, copied := copied, work := none } st) with
        requestAssembly := [], out := {}
        responses := s.responses ++ [{ kind := kind, tag := t, status := st, data := 0 }] }
    (planeLines s ≤ line.toNat →
      exec (.read t line) s = .next (at_ .read none .outOfRange) ∧
      exec (.write t line mask (.whole data)) s = .next (at_ .write none .outOfRange)) ∧
    (line.toNat < planeLines s → s.service = .halted →
      exec (.read t line) s = .next (at_ .read none .notReady) ∧
      exec (.write t line mask (.whole data)) s = .next (at_ .write none .notReady)) ∧
    (LineServed s line.toNat → (lookupRegion s line.toNat).attrs.protect = true →
      exec (.write t line mask (.whole data)) s = .next (postRecord
        { kind := .writeRefused, origin := .host t (lookupRegion s line.toNat).index, line := some line.toNat, planes := 0,
          outcome := .refused } (at_ .write (some (lookupRegion s line.toNat)) .writeRefused)))

/-- The lookup takes the whole entry of the lowest-numbered VALID region whose base and limit enclose the line, and the default
entry where there is none. -/
def Obligations.RegionLookup : Prop :=
  ∀ (s : State) (line : Nat),
    let covers := fun i : Fin 8 => s.regions[i].valid = true ∧ s.regions[i].base ≤ line ∧ line ≤ s.regions[i].limit
    (∀ i : Fin 8, covers i → (∀ k : Fin 8, k < i → ¬covers k) →
      lookupRegion s line = { index := i.castSucc, attrs := s.regions[i].attrs }) ∧
    ((∀ i : Fin 8, ¬covers i) → lookupRegion s line = { index := 8, attrs := s.defaultAttrs })

/-- A message of unknown kind and a request with a live tag are discarded: the last protocol error record takes tag and kind
code, HOST_PROTOCOL is set, and nothing else changes. While PRST# or HRST# is low nothing arrives (the model's deduction, log
entry 6). -/
def Obligations.ProtocolDiscards : Prop :=
  ∀ (kind : Byte) (t : Tag) (line : LineWord) (mask : ByteMask) (data : LineData) (s : State),
    let discarded := fun k : Byte => { s with
      protoErr := some { tag := t, kind := k }, sticky := s.sticky ||| 0x20, requestAssembly := [], out := {} }
    (requestReady s = true →
      (namesKind kind = false → exec (.unknownKindDiscard kind t) s = .next (discarded kind)) ∧
      (s.tag t ≠ .free → exec (.read t line) s = .next (discarded 0x01) ∧
        exec (.write t line mask (.whole data)) s = .next (discarded 0x02))) ∧
    (requestReady s = false →
      (namesKind kind = false → exec (.unknownKindDiscard kind t) s = .next { s with out := {} }) ∧
      exec (.read t line) s = .next { s with out := {} } ∧ exec (.write t line mask (.whole data)) s = .next { s with out := {} })

/-- A request granted at once that settles at its grant (R52, R66, R67): a READ of a suspect line is answered POISON, a READ
with no plane ONLINE NO_PLANE, a WRITE with an empty write set NO_PLANE and one with an empty mask OK; no op, no record, the
line released, nothing else changed. -/
def Obligations.AnsweredAtGrant : Prop :=
  ∀ (t : Tag) (line : LineWord) (mask : ByteMask) (data : LineData) (s : State), TagReady s t → LineServed s line.toNat →
    lockOf s.locks line.toNat = none →
    let done := fun (kind : ReqKind) (work : Work) (st : Status) =>
      { s.setTag t (.queued
          { kind := kind, line := line.toNat, copied := some (lookupRegion s line.toNat), work := some work } st) with
        requestAssembly := [], out := {}
        responses := s.responses ++ [{ kind := kind, tag := t, status := st, data := 0 }] }
    ((∃ e ∈ s.suspects, e.line = line.toNat) →
      exec (.read t line) s = .next (done .read (.read { response := some .poison }) .poison)) ∧
    ((∀ e ∈ s.suspects, e.line ≠ line.toNat) → (∀ p, (s.plane p).state ≠ .online) →
      exec (.read t line) s = .next (done .read (.read { response := some .noPlane }) .noPlane)) ∧
    ((lookupRegion s line.toNat).attrs.protect = false →
      (writeSet s line.toNat = 0 → exec (.write t line mask (.whole data)) s =
        .next (done .write (.write { mask := mask, data := data, response := some .noPlane }) .noPlane)) ∧
      (writeSet s line.toNat ≠ 0 → exec (.write t line 0 (.whole data)) s =
        .next (done .write (.write { mask := 0, data := data, writeSet := writeSet s line.toNat, response := some .ok })
          .ok)))

/-- A SINGLE READ granted at once asks its first plane (R68 to R70): the FIXED plane if ONLINE, else the lowest-numbered ONLINE
plane; under ROTATE the first ONLINE plane after the rotation pointer, which moves to it. Its op is issued, and nothing else
changes. -/
def Obligations.SingleReadIssues : Prop :=
  ∀ (t : Tag) (line : LineWord) (p : PlaneId) (s : State), TagReady s t → LineServed s line.toNat →
    lockOf s.locks line.toNat = none → (∀ e ∈ s.suspects, e.line ≠ line.toNat) →
    (lookupRegion s line.toNat).attrs.readMode = .single → (s.plane p).state = .online → IssuesAtOnce s p →
    (∀ q, (lookupRegion s line.toNat).attrs.readSelect = .fixed q →
      (s.plane q).state = .online ∧ p = q ∨ (s.plane q).state ≠ .online ∧ ∀ r, r < p → (s.plane r).state ≠ .online) →
    ((lookupRegion s line.toNat).attrs.readSelect = .rotate →
      ∀ q : PlaneId, (s.plane q).state = .online → (p - (s.rotation + 1)).val ≤ (q - (s.rotation + 1)).val) →
    let op : Op := { owner := .host t, line := line.toNat, body := .read }
    exec (.read t line) s = .next { (s.setPort p ((s.port p).withIssued s.now op)).setTag t (.inWork
        { kind := .read, line := line.toNat, copied := some (lookupRegion s line.toNat)
          work := some (.read { readSet := onlinePlanes s, tried := onePlane p, outstanding := onePlane p }) }) with
      requestAssembly := []
      locks := s.locks ++ [{ line := line.toNat, kind := some .hostRead, holders := [.host t], waiting := [] }]
      rotation := if (lookupRegion s line.toNat).attrs.readSelect = .rotate then p else s.rotation
      out := { ops := [(p, { op := op, slot := (s.port p).nextSlot, gen := (s.port p).gen, issuedAt := s.now })] } }

/-- A COMPARE READ granted at once asks every ONLINE plane, and no other; nothing else of the part changes. -/
def Obligations.CompareReadIssues : Prop :=
  ∀ (t : Tag) (line : LineWord) (s : State), TagReady s t → LineServed s line.toNat →
    lockOf s.locks line.toNat = none → (∀ e ∈ s.suspects, e.line ≠ line.toNat) →
    (lookupRegion s line.toNat).attrs.readMode = .compare → (∃ p, (s.plane p).state = .online) →
    (∀ p, (s.plane p).state = .online → IssuesAtOnce s p) →
      ∃ u, exec (.read t line) s = .next u ∧
        (∀ p, u.port p = if (s.plane p).state = .online then
          (s.port p).withIssued s.now { owner := .host t, line := line.toNat, body := .read } else s.port p) ∧
        u.tags = (s.setTag t (.inWork
          { kind := .read, line := line.toNat, copied := some (lookupRegion s line.toNat)
            work := some (.read { readSet := onlinePlanes s, tried := onlinePlanes s, outstanding := onlinePlanes s })
          })).tags ∧
        u = { s with
          ports := u.ports, tags := u.tags, out := u.out, requestAssembly := []
          locks := s.locks ++ [{ line := line.toNat, kind := some .hostRead, holders := [.host t], waiting := [] }] }

/-- A WRITE granted at once with a mask that is not empty places one op on each plane of its write set: the ONLINE planes, and
the SYNCING planes where the engine is RUNNING and its cursor is above the line. Nothing else of the part changes. -/
def Obligations.WriteIssues : Prop :=
  ∀ (t : Tag) (line : LineWord) (mask : ByteMask) (data : LineData) (s : State), TagReady s t → LineServed s line.toNat →
    lockOf s.locks line.toNat = none → (lookupRegion s line.toNat).attrs.protect = false → mask ≠ 0 →
    let reached := fun p : PlaneId => (s.plane p).state = .online ∨ (s.plane p).state = .syncing ∧
      s.sweep.engine = .running ∧ ∃ j, s.sweep.job = some j ∧ line.toNat < j.cursor
    (∃ p, reached p) → (∀ p, reached p → IssuesAtOnce s p) →
      ∃ g, (∀ p, inSet g p = true ↔ reached p) ∧ ∃ u, exec (.write t line mask (.whole data)) s = .next u ∧
        (∀ p, u.port p = if inSet g p = true then
          (s.port p).withIssued s.now { owner := .host t, line := line.toNat, body := .write mask data } else s.port p) ∧
        u.tags = (s.setTag t (.inWork
          { kind := .write, line := line.toNat, copied := some (lookupRegion s line.toNat)
            work := some (.write { mask := mask, data := data, writeSet := g, outstanding := g }) })).tags ∧
        u = { s with
          ports := u.ports, tags := u.tags, out := u.out, requestAssembly := []
          locks := s.locks ++ [{ line := line.toNat, kind := some .hostWrite, holders := [.host t], waiting := [] }] }

/-- A request whose line is held by an incompatible holder, or has waiters, waits at the tail of the line's list; one whose host
position is still held is held back there; a WRITE that is partly transferred, a row that is the model's choice (log entry 7),
waits in the request assembly buffer. No op, no response, nothing else changed. A READ of a line that only READs hold, with no
waiter, joins the holders and is granted at once: it is answered POISON or NO_PLANE and leaves them, or asks the planes of its
read mode. -/
def Obligations.RequestWaits : Prop :=
  ∀ (t : Tag) (line : LineWord) (mask : ByteMask) (data : LineData) (s : State), requestReady s = true →
    (∀ held : Fin 5, ∃ f, encodeRequest (.write t line mask (.whole data)) = some f ∧
      exec (.write t line mask (.partly held data)) s = .next { s with requestAssembly := f.take (held.val + 1), out := {} }) ∧
    (s.tag t = .free → LineServed s line.toNat →
    let r := fun (kind : ReqKind) (work : Work) =>
      ({ kind := kind, line := line.toNat, copied := some (lookupRegion s line.toNat), work := some work } : Request)
    let attrs := (lookupRegion s line.toNat).attrs
    let inWork := fun (kind : ReqKind) (work : Work) => s.setTag t (.inWork (r kind work))
    let write := Work.write { mask := mask, data := data }
    let queue := fun c : Claim => s.locks.map fun e =>
      if e.line = line.toNat then { e with waiting := e.waiting ++ [c] } else e
    (∀ e ∈ s.locks, e.line = line.toNat → s.position t = { kept := none, heldBack := none } → LocksSound s →
      (e.kind ≠ some .hostRead ∨ e.waiting ≠ [] → exec (.read t line) s = .next { inWork .read (.read {}) with
        requestAssembly := [], out := {}, locks := queue { pos := .host t, kind := .hostRead } }) ∧
      (attrs.protect = false → exec (.write t line mask (.whole data)) s = .next { inWork .write write with
        requestAssembly := [], out := {}, locks := queue { pos := .host t, kind := .hostWrite } }) ∧
      (e.kind = some .hostRead → e.waiting = [] → holdsLine s (.host t) = false →
        let answered := fun (x : ReadRec) (st : Status) => ({ s.setTag t (.queued (r .read (.read x)) st) with
          requestAssembly := [], out := {}
          responses := s.responses ++ [{ kind := .read, tag := t, status := st, data := 0 }] } : State)
        ((∃ x ∈ s.suspects, x.line = line.toNat) →
          exec (.read t line) s = .next (answered { response := some .poison } .poison)) ∧
        ((∀ x ∈ s.suspects, x.line ≠ line.toNat) →
          ((∀ p, (s.plane p).state ≠ .online) →
            exec (.read t line) s = .next (answered { response := some .noPlane } .noPlane)) ∧
          ∀ (g : PlaneSet) (p : PlaneId), (s.plane p).state = .online → (∀ q, inSet g q = true → IssuesAtOnce s q) →
            (attrs.readMode = .compare ∧ (∀ q, inSet g q = true ↔ (s.plane q).state = .online) ∨
              attrs.readMode = .single ∧ g = onePlane p ∧
              (∀ q, attrs.readSelect = .fixed q →
                (s.plane q).state = .online ∧ p = q ∨ (s.plane q).state ≠ .online ∧ ∀ v, v < p → (s.plane v).state ≠ .online) ∧
              (attrs.readSelect = .rotate → ∀ q : PlaneId, (s.plane q).state = .online →
                (p - (s.rotation + 1)).val ≤ (q - (s.rotation + 1)).val)) →
            ∃ u, exec (.read t line) s = .next u ∧
              (∀ q, u.port q = if inSet g q = true then
                (s.port q).withIssued s.now { owner := .host t, line := line.toNat, body := .read } else s.port q) ∧
              u.tags = (inWork .read (.read { readSet := onlinePlanes s, tried := g, outstanding := g })).tags ∧
              u = { s with
                ports := u.ports, tags := u.tags, out := u.out, requestAssembly := []
                locks := s.locks.map fun x =>
                  if x.line = line.toNat then { x with holders := x.holders ++ [.host t] } else x
                rotation := if attrs.readMode = .single ∧ attrs.readSelect = .rotate then p else s.rotation }))) ∧
    ∀ k, (s.position t).kept = some k →
      exec (.read t line) s = .next { (inWork .read (.read {})).setPosition t
          { kept := some k, heldBack := some { kind := .hostRead, line := line.toNat } } with
        requestAssembly := [], out := {} } ∧
      (attrs.protect = false → exec (.write t line mask (.whole data)) s =
        .next { (inWork .write write).setPosition t
            { kept := some k, heldBack := some { kind := .hostWrite, line := line.toNat } } with
          requestAssembly := [], out := {} }))

/-- The host takes the head of the response queue: its tag becomes FREE, and the record of a request that still holds its line
passes to the host position; a response made at acceptance, while the position keeps an earlier request, is taken and leaves that
one there. Nothing is taken from an empty queue, or while HRST# or PRST# is low (the latter the model's deduction, log entry 6). -/
def Obligations.ResponseTaken : Prop :=
  ∀ s : State,
    (s.responses = [] ∨ requestReady s = false → exec .responseTaken s = .next { s with out := {} }) ∧
    ∀ x rest r st, s.responses = x :: rest → requestReady s = true → s.tag x.tag = .queued r st →
      let taken := { s.setTag x.tag .free with responses := rest, out := { response := some x } }
      (r.work = none ∨ (s.position x.tag).kept = none ∧ holdsLine s (.host x.tag) = false →
        exec .responseTaken s = .next taken) ∧
      ((s.position x.tag).kept = none → r.work ≠ none → holdsLine s (.host x.tag) = true → exec .responseTaken s =
        .next (taken.setPosition x.tag { s.position x.tag with kept := some r }))

/-- HRST# falling empties the host channel: every tag FREE, no response, no waiting or held-back host claim, no op on a host-side
list. A live or answered holder becomes an orphan: its unissued ops join its withdrawn set, its record stays with the position
while an op is left, and its line is released where none is. The records of withdrawn work are posted in ascending order of tag.
Plane queues keep their ops; service, regions, policies, rotation pointer, protocol error record and management port stay, and
plane records, but where a SYNCING plane's job or a drain ends. Generations stay, and the sweep lists keep their order, ops
leaving from the head into the queue's next slots; the ports change in nothing else where no sweep claim waits. Where no sweep
claim waits and no job is ABORTING the sweep engine stays too; the log gets no other record, no sticky cause but that of their
overflow is set, and the suspect table stays unless a waiting sweep line has erred already. -/
def Obligations.HostChannelReset : Prop :=
  ∀ s : State, s.pins.hrstLow = false →
    (∀ t : Tag, holdsLine s (.host t) = true → ∃ r, requestAt s t = some r ∧ r.work ≠ none) →
      let unissued := fun (t : Tag) (q : PlaneId) => ∃ op ∈ (s.port q).hostList, op.owner = .host t
      ∃ u, exec .hostChannelReset s = .next u ∧ u.pins = { s.pins with hrstLow := true } ∧
        (∀ t : Tag, u.tag t = .free ∧ (u.position t).heldBack = none ∧
          (holdsLine u (.host t) = true → holderMark u t = .orphan)) ∧
        u.responses = [] ∧ u.requestAssembly = [] ∧ (∀ e ∈ u.locks, ∀ c ∈ e.waiting, c.isSweep = true) ∧
        (∀ p : PlaneId, (u.port p).hostList = [] ∧ (u.port p).gen = (s.port p).gen ∧
          (∃ more new, (u.port p).queue = (s.port p).queue ++ more ∧
            (u.port p).nextSlot = (s.port p).nextSlot + BitVec.ofNat 4 more.length ∧
            (s.port p).sweepList ++ new = more.map QueuedOp.op ++ (u.port p).sweepList) ∧
          ((∀ e ∈ s.locks, ∀ c ∈ e.waiting, c.isSweep = false) → u.port p = { s.port p with hostList := [] }) ∧
          ((s.plane p).state ≠ .syncing → (s.plane p).state ≠ .detaching → u.plane p = s.plane p)) ∧
        u.service = s.service ∧ u.regions = s.regions ∧ u.defaultAttrs = s.defaultAttrs ∧ u.geometry = s.geometry ∧
        u.errorLimit = s.errorLimit ∧ u.planeTimeout = s.planeTimeout ∧ u.sweepShare = s.sweepShare ∧
        u.rotation = s.rotation ∧ u.protoErr = s.protoErr ∧ u.alertMask = s.alertMask ∧ u.now = s.now ∧
        ((∀ p, (s.plane p).state ≠ .detaching) → u.mgmt = s.mgmt) ∧
        ((∀ e ∈ s.locks, ∀ c ∈ e.waiting, c.isSweep = false) → s.sweep.engine ≠ .aborting → u.sweep = s.sweep ∧
          ∀ p, (s.plane p).state ≠ .detaching → u.plane p = s.plane p) ∧
        ∃ records : Tag → List RecBody,
          ((∀ e ∈ s.locks, ∀ c ∈ e.waiting, ∀ k, c.pos = .slot k → ∀ w ∈ s.slot k, w.erred = 0) →
            let posted := ((List.finRange 32).flatMap records).foldl (fun x b => postRecord b x) s
            u.suspects = s.suspects ∧ u.log = posted.log ∧ u.sticky = posted.sticky) ∧
          ∀ t : Tag, (holdsLine s (.host t) = false → records t = [] ∧ (u.position t).kept = none) ∧
            (holdsLine s (.host t) = true → ∀ r, requestAt s t = some r →
              (r.isOrphan = true → records t = [] ∧
                (r.settled = false → (u.position t).kept = some r ∧ holdsLine u (.host t) = true)) ∧
              (∀ w, r.work = some (.write w) → w.orphan = false → ∃ out gone : PlaneSet,
                (∀ q, inSet out q = true ↔ inSet w.outstanding q = true ∧ ¬unissued t q) ∧
                (∀ q, inSet gone q = true ↔ inSet w.withdrawn q = true ∨ inSet w.outstanding q = true ∧ unissued t q) ∧
                (out ≠ 0 → holdsLine u (.host t) = true ∧ (u.position t).kept = some { r with
                  work := some (.write { w with orphan := true, outstanding := out, withdrawn := gone }) }) ∧
                (out = 0 → holdsLine u (.host t) = false ∧ (u.position t).kept = none) ∧
                records t = if gone ≠ 0 ∧ (out ||| w.endedOk ||| w.endedErred ||| w.endedLost) ≠ 0 then
                  [{ kind := .writeLost, origin := .host t r.region, line := some r.line, planes := gone, outcome := .lost }]
                  else []) ∧
              ∀ x, r.work = some (.read x) → x.orphan = false → ∃ out gone repairs removed : PlaneSet,
                (∀ q, inSet out q = true ↔ inSet x.outstanding q = true ∧ ¬unissued t q) ∧
                (∀ q, inSet gone q = true ↔ inSet x.withdrawn q = true ∨ inSet x.outstanding q = true ∧ unissued t q) ∧
                (∀ q, inSet repairs q = true ↔ inSet x.repairsOut q = true ∧ ¬unissued t q) ∧
                (∀ q, inSet removed q = true ↔ inSet x.repairsOut q = true ∧ unissued t q) ∧
                (out ≠ 0 ∨ repairs ≠ 0 → holdsLine u (.host t) = true ∧ (u.position t).kept = some { r with
                  work := some (.read { x with orphan := true, outstanding := out, withdrawn := gone, repairsOut := repairs }) }) ∧
                (out = 0 ∧ repairs = 0 → holdsLine u (.host t) = false ∧ (u.position t).kept = none) ∧
                records t = (if removed ≠ 0 then
                    [{ kind := if ∃ a ∈ x.copies, ∃ b ∈ x.copies, a.2 ≠ b.2 then .mismatch else .readError
                       origin := .host t r.region, line := some r.line, planes := removed, outcome := .unresolved }]
                    else []) ++
                  (if out = 0 ∧ repairs = 0 then (x.pendingRecord.map fun g =>
                    { kind := .readError, origin := .host t r.region, line := some r.line, planes := g
                      outcome := .unresolved }).toList else []))

/-- Power-on reset leaves every block at its power-on values, in every state, a frame in progress ignored to its end, and MISO
high-impedance. The model's
choices: the pins keep their levels (log entry 24), the microsecond count goes on (log entry 5), and the links are sampled at the
start of the reset too (log entry 22). The command queue is not the part's. -/
def Obligations.PowerOnResetValues : Prop :=
  ∀ s : State, ∃ t, exec .powerOnReset s = .next t ∧
    (∀ p : PlaneId, t.plane p =
      { state := .offline, link := if s.pins.lrdy[p] then .up else .down, errorCount := 0, cause := none } ∧
      t.port p = { queue := [], nextSlot := 0, gen := 0, hostList := [], sweepList := [], hostGrants := 0 }) ∧
    t.service = .halted ∧ t.geometry = 4 ∧ t.errorLimit = 16 ∧ t.planeTimeout = 64 ∧ t.sweepShare = 4 ∧
    t.log = { records := [], nextSeq := 0, overflow := 0, mode := .keepOldest, threshold := 48 } ∧ t.suspects = [] ∧
    t.locks = [] ∧ (∀ u : Tag, t.tag u = .free ∧ t.position u = { kept := none, heldBack := none }) ∧ t.responses = [] ∧
    t.protoErr = none ∧ t.rotation = 3 ∧
    (∀ i : Fin 8, t.regions[i] = { valid := false, base := 0, limit := 0, attrs := t.defaultAttrs }) ∧
    t.defaultAttrs = { readMode := .single, readSelect := .rotate, repair := true, ack := .all, protect := false } ∧
    t.sweep.engine = .idle ∧ t.sweep.job = none ∧ (∀ k : SlotId, t.slot k = none) ∧ t.sweep.jobCounter = 0 ∧
    t.sweep.completions = [] ∧ t.sweep.waiting = none ∧
    t.mgmt = { busy := false, rejected := false, result := none, assembly := []
               frame := s.mgmt.frame.map fun _ => .ignored } ∧
    t.requestAssembly = [] ∧ t.sticky = 0 ∧ t.alertMask = 0x7F ∧ alertLow t = false ∧
    misoDriven t = false ∧ t.pins = { s.pins with inReset := true } ∧ t.pending = s.pending ∧ t.now = s.now

/-- PRST# rising ends the reset, takes each link field from its LRDY, and lets MISO be driven where CS# is low; HRST# rising makes
the request path ready again; HRST# falling while it is low changes nothing, and PRST# rising while it is high changes nothing
either (the latter the model's choice, log entry 18). -/
def Obligations.ResetEdges : Prop :=
  ∀ s : State,
    (s.pins.inReset = false → exec .powerOnResetEnd s = .next { s with out := {} }) ∧
    (s.pins.inReset = true → ∃ t, exec .powerOnResetEnd s = .next t ∧
      (∀ p : PlaneId, t.plane p = { s.plane p with link := if s.pins.lrdy[p] then .up else .down }) ∧
      (misoDriven t = true ↔ s.mgmt.frame ≠ none) ∧
      t = { s with planes := t.planes, out := {}, pins := { s.pins with inReset := false } }) ∧
    exec .hrstRising s = .next { s with out := {}, pins := { s.pins with hrstLow := false } } ∧
    (s.pins.hrstLow = true → exec .hostChannelReset s = .next { s with out := {} })

/-! ## The plane links -/

/-- LRDY rising, and falling out of service, changes only the level and the link field. A response is set aside where the plane
is OFFLINE or FAILED or the generation is not the port's; with the queue empty no expiry arises. Nothing changes then. -/
def Obligations.LinkEventsWithoutEffect : Prop :=
  ∀ (p : PlaneId) (slot : BitVec 4) (gen : BitVec 3) (status kind : Byte) (data : LineData) (s : State),
    let levelled := fun (level : Bool) (link : Link) => { s.setPlane p { s.plane p with link := link } with
      pins := { s.pins with lrdy := s.pins.lrdy.set p.val level p.isLt }, out := {} }
    exec (.lrdyRising p) s = .next (levelled true .up) ∧
    ((s.plane p).state.inService = false → NothingDue s → exec (.lrdyFalling p) s = .next (levelled false .down)) ∧
    ((s.plane p).state.inService = false ∨ gen ≠ (s.port p).gen →
      exec (.readResponse p slot gen status data) s = .next { s with out := {} } ∧
      exec (.writeResponse p slot gen status) s = .next { s with out := {} } ∧
      (namesKind kind = false → exec (.unknownKindResponse p slot gen kind status) s = .next { s with out := {} })) ∧
    ((s.port p).queue = [] → exec (.planeTimeoutExpiry p) s = .next { s with out := {} })

/-- The failure of a plane in service by LINK_LOST, TIMEOUT or LINK_FAULT, an LRDY fall at any recorded level and an expiry of an op
of any age among them (the model's choices, log entries 18 and 3): the plane FAILED with that cause and its count kept,
its port flushed to the next generation, PLANE_FAILED set and its record posted (unless KEEP_OLDEST met a full log), service
halted with the last ONLINE plane and otherwise kept, and a pending PLANE_DETACH answered PLANE_FAILED. With the engine IDLE and
no plane DETACHING the other planes and the management port are as before; geometry, regions, policy values and the protocol
error record always are. An expiry of an op that is not yet due comes after those of the older ops of other ONLINE planes. -/
def Obligations.PlaneFailure : Prop :=
  (∀ (p q : PlaneId) (x y : QueuedOp) (s : State), (s.port p).queue.head? = some x → (s.port q).queue.head? = some y →
    (s.plane p).state = .online → (s.plane q).state = .online → s.now ≤ x.issuedAt + s.planeTimeout →
    y.issuedAt < x.issuedAt → ∃ t, exec (.planeTimeoutExpiry p) s = .next t ∧ t.now = x.issuedAt + s.planeTimeout + 1 ∧
      ∀ r, r = p ∨ r = q → (t.plane r).state = .failed ∧ (t.plane r).cause = some .timeout ∧ (t.port r).queue = []) ∧
  ∀ (i : Instr) (p : PlaneId) (c : FailCause) (s : State), (s.plane p).state.inService = true → failsPlane s p i c →
    DetachTracked s →
      ∃ t, exec i s = .next t ∧
        t.plane p = { state := .failed, link := if c = .linkLost then .down else (s.plane p).link
                      errorCount := (s.plane p).errorCount, cause := some c } ∧
        t.port p = { queue := [], nextSlot := 0, gen := (s.port p).gen + 1, hostList := [], sweepList := [], hostGrants := 0 } ∧
        t.sticky &&& causePlaneFailed = causePlaneFailed ∧
        ((∃ d, t.log.records.getLast? = some d ∧ d.body =
            { kind := .planeFailed, origin := .plane c, line := none, planes := onePlane p, outcome := .failed }) ∨
          t.log.mode = .keepOldest ∧ Config.logPlaces ≤ t.log.records.length) ∧
        ((s.plane p).state = .online → (∀ q, q ≠ p → (s.plane q).state ≠ .online) → t.service = .halted ∧
          (s.service = .serving → t.sticky &&& causeServiceLost = causeServiceLost)) ∧
        ((s.plane p).state ≠ .online ∨ (∃ q, q ≠ p ∧ (s.plane q).state = .online) → t.service = s.service) ∧
        ((s.plane p).state = .detaching → t.mgmt.busy = false ∧
          t.mgmt.result = some { code := .planeFailed, payload := [] }) ∧
        (s.sweep.engine = .idle → (∀ q, (s.plane q).state ≠ .detaching) →
          (∀ q, q ≠ p → t.plane q = s.plane q) ∧ t.mgmt = s.mgmt) ∧
        t.geometry = s.geometry ∧ t.regions = s.regions ∧ t.defaultAttrs = s.defaultAttrs ∧ t.errorLimit = s.errorLimit ∧
        t.planeTimeout = s.planeTimeout ∧ t.sweepShare = s.sweepShare ∧ t.alertMask = s.alertMask ∧
        t.protoErr = s.protoErr ∧ t.requestAssembly = s.requestAssembly

/-- A matching DATA_ERROR is counted on an ONLINE or DETACHING plane and fails it with ERROR_LIMIT at the limit; a matching
WRITE_ERROR fails an ONLINE, SYNCING or DETACHING plane. The op is gone from the queue in every case. A pending PLANE_DETACH is
answered PLANE_FAILED by the failure, and DONE where the erring read was the plane's last op and it becomes OFFLINE. -/
def Obligations.ErrorsCounted : Prop :=
  ∀ (p : PlaneId) (data : LineData) (x : QueuedOp) (xs : List QueuedOp) (s : State), DetachTracked s →
    (s.port p).queue = x :: xs →
    (x.op.body = .read → (s.plane p).state = .online ∨ (s.plane p).state = .detaching → InTime s xs →
      ∃ t, exec (.readResponse p x.slot (s.port p).gen 0x01 data) s = .next t ∧
        (t.plane p).errorCount = (s.plane p).errorCount + 1 ∧
        (s.errorLimit ≤ (s.plane p).errorCount + 1 → (t.plane p).state = .failed ∧ (t.plane p).cause = some .errorLimit ∧
          (t.port p).gen = (s.port p).gen + 1 ∧ (t.port p).queue = [] ∧
          ((s.plane p).state = .detaching →
            t.mgmt = { s.mgmt with result := some { code := .planeFailed, payload := [] }, busy := false })) ∧
        ((s.plane p).errorCount + 1 < s.errorLimit → (t.port p).gen = (s.port p).gen ∧
          (∃ more, (t.port p).queue = xs ++ more) ∧
          ((s.plane p).state = .online → (t.plane p).state = .online) ∧
          ((s.plane p).state = .detaching →
            (xs = [] ∧ (s.port p).hostList = [] ∧ (s.port p).sweepList = [] → (t.plane p).state = .offline ∧
              t.mgmt = { s.mgmt with result := some { code := .done, payload := [] }, busy := false }) ∧
            (xs ≠ [] ∨ (s.port p).hostList ≠ [] ∨ (s.port p).sweepList ≠ [] → (t.plane p).state = .detaching ∧
              t.mgmt = s.mgmt)))) ∧
    (x.op.body ≠ .read → (s.plane p).state = .online ∨ (s.plane p).state = .syncing ∨ (s.plane p).state = .detaching →
      ∃ t, exec (.writeResponse p x.slot (s.port p).gen 0x02) s = .next t ∧
        (t.plane p).state = .failed ∧ (t.plane p).cause = some .writeError ∧ (t.port p).gen = (s.port p).gen + 1 ∧
        (t.port p).queue = [] ∧
        ((s.plane p).state ≠ .syncing ∨ s.sweep.engine ≠ .running → (t.plane p).errorCount = (s.plane p).errorCount) ∧
        ((s.plane p).state = .detaching →
          t.mgmt = { s.mgmt with result := some { code := .planeFailed, payload := [] }, busy := false }))

/-- The line's only claim is that of this host position, and the position keeps and holds back nothing. -/
abbrev HoldsAlone (s : State) (t : Tag) (line : Nat) : Prop :=
  s.position t = { kept := none, heldBack := none } ∧ LineAlone s t line

/-- The end of plane `p`'s oldest op leaves it in service, and brings no end of its drain: it is not DETACHING, or another op is
behind. -/
abbrev StaysInService (s : State) (p : PlaneId) (xs : List QueuedOp) : Prop :=
  (s.plane p).state = .online ∨ (s.plane p).state = .syncing ∨ (s.plane p).state = .detaching ∧ xs ≠ []

/-- The OK end of a SINGLE READ. With no error before: answered OK, or RECOVERED after a loss, and the line is released; on a
DETACHING plane with no other op the plane becomes OFFLINE with DONE too. After an error: answered RECOVERED, and READ_ERROR
recorded: REPAIRED with full-line writes of the copy to the erred planes still ONLINE, under the hold, or SERVED and released where
repair is OFF or none is ONLINE. The op is gone, and nothing else changes. -/
def Obligations.SingleReadServed : Prop :=
  ∀ (p : PlaneId) (t : Tag) (x : QueuedOp) (xs : List QueuedOp) (r : Request) (rec_ : ReadRec) (data : LineData) (s : State),
    (s.port p).queue = x :: xs → (s.port p).hostList = [] → (s.port p).sweepList = [] → InTime s xs →
    x.op = { owner := .host t, line := r.line, body := .read } → s.tag t = .inWork r → r.kind = .read →
    r.work = some (.read rec_) → rec_.orphan = false → r.attrs.readMode = .single →
    HoldsAlone s t r.line → NothingDue s →
      let run := exec (.readResponse p x.slot (s.port p).gen 0x00 data) s
      let popped := s.setPort p { s.port p with queue := xs }
      let st := if rec_.erred = 0 ∧ rec_.lost = 0 then Status.ok else Status.recovered
      let answer := fun g : PlaneSet => TagEntry.queued { r with work := some (.read { rec_ with
        outstanding := dropPlane rec_.outstanding p, copies := rec_.copies ++ [(p, data)], response := some st
        pendingRecord := none, repairSet := g, repairsOut := g }) } st
      let served := { popped.setTag t (answer 0) with
        responses := s.responses ++ [{ kind := .read, tag := t, status := st, data := data }], out := {}
        locks := s.locks.filter fun e => e.line != r.line }
      let record := fun outcome : RecOutcome =>
        ({ kind := .readError, origin := .host t r.region, line := some r.line, planes := rec_.erred, outcome := outcome } : RecBody)
      (rec_.erred = 0 →
        (StaysInService s p xs → run = .next served) ∧
        ((s.plane p).state = .detaching → xs = [] → run = .next { served.setPlane p { s.plane p with state := .offline } with
          mgmt := { s.mgmt with result := some { code := .done, payload := [] }, busy := false } })) ∧
      (rec_.erred ≠ 0 → StaysInService s p xs →
        (r.attrs.repair = false ∨ (∀ q, inSet rec_.erred q = true → (s.plane q).state ≠ .online) →
          run = .next (postRecord (record .served) served)) ∧
        (r.attrs.repair = true → inSet rec_.erred p = false →
          (∃ q, inSet rec_.erred q = true ∧ (s.plane q).state = .online) →
          (∀ q, inSet rec_.erred q = true → (s.plane q).state = .online → IssuesAtOnce s q) →
            ∃ g, (∀ q, inSet g q = true ↔ inSet rec_.erred q = true ∧ (s.plane q).state = .online) ∧ ∃ u, run = .next u ∧
              (∀ q, u.port q = if inSet g q = true then (s.port q).withIssued s.now
                { owner := .host t, line := r.line, body := .write (BitVec.allOnes 64) data } else popped.port q) ∧
              u = { postRecord (record .repaired) (s.setTag t (answer g)) with
                ports := u.ports, out := u.out, responses := served.responses }))

/-- The end of plane `p`'s oldest op brings no other event with it: as in `OldestEnds`, or, for an OK write end, with the plane in
any state that it keeps. -/
abbrev EndsAlone (s : State) (p : PlaneId) (x : QueuedOp) (xs : List QueuedOp) (e : OpEnd) : Prop :=
  OldestEnds s p x xs e ∨ e = .writeOk ∧ StaysInService s p xs ∧ (s.port p).queue = x :: xs ∧ (s.port p).hostList = [] ∧
    (s.port p).sweepList = [] ∧ InTime s xs ∧ NothingDue s ∧ ((s.plane p).state = .syncing → s.sweep.engine ≠ .aborting)

/-- Each end of a host write op, OK, WRITE_ERROR or PLANE_LOST. A WRITE's record loses the plane from its outstanding set and
takes it into the set of planes ended so; the first OK end of a full mask removes the suspect entry; any other end posts
WRITE_LOST. A live WRITE under FIRST is answered OK by the first OK end, and NO_PLANE by the last end where none was OK; under ALL
by the last end: OK, RECOVERED where a plane erred or was lost, NO_PLANE where none took the data; no other end answers. A WRITE
answered before, its response taken or not, and an orphan get no response. The end of a READ's repair write takes the plane from
its repairs outstanding. The last end releases the line. The plane goes on, or has failed; nothing else changes. -/
def Obligations.WriteEndOk : Prop :=
  ∀ (p : PlaneId) (t : Tag) (x : QueuedOp) (xs : List QueuedOp) (r : Request) (e : OpEnd) (mask : ByteMask) (d : LineData)
    (s : State),
    e = .writeOk ∨ e = .writeError ∨ e = .lost → EndsAlone s p x xs e → LineAlone s t r.line →
    x.op = { owner := .host t, line := r.line, body := .write mask d } →
      let run := exec (endCommand s p x 0 e) s
      let base := planeEnded p xs e s
      let released := s.locks.filter fun y => y.line != r.line
      let kept := fun (last : Bool) (work : Work) =>
        if last then { base.setPosition t { kept := none, heldBack := none } with locks := released }
        else base.setPosition t { kept := some { r with work := some work }, heldBack := none }
      (∀ w, r.work = some (.write w) →
        let w1 := { w with
          outstanding := dropPlane w.outstanding p
          endedOk := if e = .writeOk then addPlane w.endedOk p else w.endedOk
          endedErred := if e = .writeError then addPlane w.endedErred p else w.endedErred
          endedLost := if e = .lost then addPlane w.endedLost p else w.endedLost
          suspectDone := w.suspectDone || (e == .writeOk && w.mask == BitVec.allOnes 64) }
        let after := fun u : State => failureEnded p e (if e = .writeOk then { u with
            suspects := if w.mask = BitVec.allOnes 64 ∧ w.suspectDone = false then
              s.suspects.filter fun y => y.line != r.line else s.suspects }
          else postRecord { kind := .writeLost, origin := .host t r.region, line := some r.line, planes := onePlane p
                            outcome := .lost } u)
        let entered := fun (entry : TagEntry) (responses : List Response) =>
          { base.setTag t entry with responses := responses, locks := if w1.outstanding = 0 then released else s.locks }
        let ended := fun o : Option Status => { r with work := some (.write { w1 with response := o }) }
        (s.position t = { kept := some r, heldBack := none } → w.orphan = true ∨ w.response ≠ none →
          run = .next { after (kept (w1.outstanding == 0) (.write w1)) with out := {} }) ∧
        (∀ st, s.position t = { kept := none, heldBack := none } → s.tag t = .queued r st → w.response ≠ none →
          run = .next { after (entered (.queued (ended w.response) st) s.responses) with out := {} }) ∧
        (s.position t = { kept := none, heldBack := none } → s.tag t = .inWork r → r.kind = .write → w.orphan = false →
          w.response = none →
          (w1.outstanding ≠ 0 → r.attrs.ack = .all ∨ e ≠ .writeOk →
            run = .next { after (entered (.inWork (ended none)) s.responses) with out := {} }) ∧
          ∀ st, r.attrs.ack = .first ∧ (e = .writeOk ∧ st = .ok ∨
                e ≠ .writeOk ∧ w1.outstanding = 0 ∧ w1.endedOk = 0 ∧ st = .noPlane) ∨
              r.attrs.ack = .all ∧ w1.outstanding = 0 ∧ (w1.endedOk = 0 ∧ st = .noPlane ∨
                w1.endedOk ≠ 0 ∧ w1.endedErred ||| w1.endedLost = 0 ∧ st = .ok ∨
                w1.endedOk ≠ 0 ∧ w1.endedErred ||| w1.endedLost ≠ 0 ∧ st = .recovered) →
            run = .next { after (entered (.queued (ended (some st)) st)
              (s.responses ++ [{ kind := .write, tag := t, status := st, data := 0 }])) with out := {} })) ∧
      ∀ rec_, r.work = some (.read rec_) →
        let rec1 := { rec_ with repairsOut := dropPlane rec_.repairsOut p }
        (s.position t = { kept := some r, heldBack := none } →
          run = .next { failureEnded p e (kept (rec1.repairsOut == 0 && rec1.outstanding == 0) (.read rec1)) with out := {} }) ∧
        ∀ st, s.position t = { kept := none, heldBack := none } → s.tag t = .queued r st →
          run = .next { failureEnded p e { base.setTag t (.queued { r with work := some (.read rec1) } st) with
            locks := if rec1.repairsOut = 0 ∧ rec1.outstanding = 0 then released else s.locks } with out := {} }

/-- The DATA_ERROR or PLANE_LOST end of a live SINGLE READ: the read asks the nearest ONLINE plane of its read set not yet tried, in
cyclic order, and posts no record. With none left it is answered NO_PLANE where no plane erred, and else POISON: the suspect table
takes the line and READ_ERROR is recorded; the line is released. The read end of an orphan READ makes no response and asks no plane;
the last one posts the pending READ_ERROR record, if one is due, and releases the line. The plane counts its error, or has failed;
nothing else changes. -/
def Obligations.SingleReadErred : Prop :=
  ∀ (p : PlaneId) (t : Tag) (x : QueuedOp) (xs : List QueuedOp) (r : Request) (rec_ : ReadRec) (e : OpEnd) (data : LineData)
    (s : State), OldestEnds s p x xs e → x.op = { owner := .host t, line := r.line, body := .read } → r.kind = .read →
    r.work = some (.read rec_) →
      let run := exec (endCommand s p x data e) s
      let base := planeEnded p xs e s
      let released := s.locks.filter fun y => y.line != r.line
      let rec1 : ReadRec := { rec_ with
        outstanding := dropPlane rec_.outstanding p
        erred := if e = .dataError then addPlane rec_.erred p else rec_.erred
        lost := if e = .lost then addPlane rec_.lost p else rec_.lost
        pendingRecord := if e = .dataError then some (addPlane (rec_.pendingRecord.getD 0) p) else rec_.pendingRecord }
      let readError := fun g : PlaneSet =>
        ({ kind := .readError, origin := .host t r.region, line := some r.line, planes := g, outcome := .unresolved } : RecBody)
      (e = .dataError ∨ e = .lost → s.tag t = .inWork r → rec_.orphan = false → r.attrs.readMode = .single →
        inSet rec_.tried p = true → (s.position t).kept = none →
        let open_ := fun q : PlaneId =>
          inSet rec_.readSet q = true ∧ (s.plane q).state = .online ∧ inSet rec_.tried q = false
        let settled := fun (st : Status) (rec2 : ReadRec) =>
          ({ base.setTag t (.queued { r with work := some (.read rec2) } st) with
            responses := s.responses ++ [{ kind := .read, tag := t, status := st, data := 0 }], locks := released } : State)
        (∀ q, open_ q → (∀ v, open_ v → (q - (p + 1)).val ≤ (v - (p + 1)).val) → IssuesAtOnce s q →
          run = .next { failureEnded p e ((base.setPort q ((s.port q).withIssued s.now x.op)).setTag t (.inWork { r with
              work := some (.read { rec1 with
                tried := addPlane rec_.tried q, outstanding := addPlane rec1.outstanding q }) })) with
            out := { ops := [(q, ⟨x.op, (s.port q).nextSlot, (s.port q).gen, s.now⟩)] } }) ∧
        ((∀ q, ¬open_ q) → HoldsAlone s t r.line →
          (rec1.erred = 0 →
            run = .next { failureEnded p e (settled .noPlane { rec1 with response := some .noPlane }) with out := {} }) ∧
          (rec1.erred ≠ 0 → s.suspects.length < 16 → (∀ y ∈ s.suspects, y.line ≠ r.line) →
            run = .next { failureEnded p e (postRecord (readError rec1.erred)
                { settled .poison { rec1 with pendingRecord := none, response := some .poison } with
                  suspects := s.suspects ++ [{ line := r.line, reason := .noGoodCopy, planes := rec1.erred }] }) with
              out := {} }))) ∧
      (e = .dataError ∨ e = .lost ∨ e = .readOk data → s.position t = { kept := some r, heldBack := none } →
        rec_.orphan = true → LineAlone s t r.line →
        let rec2 : ReadRec := { rec1 with copies := if e = .readOk data then rec_.copies ++ [(p, data)] else rec_.copies }
        (rec1.outstanding ≠ 0 ∨ rec_.repairsOut ≠ 0 →
          run = .next { failureEnded p e (base.setPosition t
            { kept := some { r with work := some (.read rec2) }, heldBack := none }) with out := {} }) ∧
        (rec1.outstanding = 0 → rec_.repairsOut = 0 →
          let freed := { base.setPosition t { kept := none, heldBack := none } with locks := released }
          (rec1.pendingRecord = none → run = .next { failureEnded p e freed with out := {} }) ∧
          ∀ g, rec1.pendingRecord = some g → run = .next { failureEnded p e (postRecord (readError g) freed) with out := {} }))

/-- The last read end of a live COMPARE READ, OK, DATA_ERROR or PLANE_LOST. All copies equal and no error: answered OK and released.
All equal after an error, or a majority: answered RECOVERED with that copy; with repair ON the erred and minority planes still
ONLINE are repaired by full-line writes under the hold and READ_ERROR, or MISMATCH, is recorded REPAIRED; with repair OFF, or none
ONLINE, it is recorded SERVED, or MAJORITY_SERVED, and the line released. No majority, or no copy after an error: answered POISON,
the suspect table takes the line with NO_MAJORITY or NO_GOOD_COPY, MISMATCH or READ_ERROR is recorded UNRESOLVED and the line
released. No copy and no error: answered NO_PLANE. The plane counts its error, or has failed; nothing else changes. -/
def Obligations.CompareReadSettles : Prop :=
  ∀ (p : PlaneId) (t : Tag) (x : QueuedOp) (xs : List QueuedOp) (r : Request) (rec_ : ReadRec) (e : OpEnd) (data d : LineData)
    (m : PlaneSet) (s : State), e = .readOk data ∨ e = .dataError ∨ e = .lost → OldestEnds s p x xs e →
    x.op = { owner := .host t, line := r.line, body := .read } → s.tag t = .inWork r → r.kind = .read →
    r.work = some (.read rec_) → rec_.orphan = false → r.attrs.readMode = .compare → rec_.outstanding = onePlane p →
    (s.position t).kept = none →
      let copies := if e = .readOk data then rec_.copies ++ [(p, data)] else rec_.copies
      let erred := if e = .dataError then addPlane rec_.erred p else rec_.erred
      let run := exec (endCommand s p x data e) s
      let base := planeEnded p xs e s
      let rec1 : ReadRec := { rec_ with
        outstanding := 0, copies := copies, erred := erred
        lost := if e = .lost then addPlane rec_.lost p else rec_.lost }
      let answer := fun (st : Status) (pending : Option PlaneSet) (g : PlaneSet) (repairs : PlaneSet) =>
        TagEntry.queued { r with work := some (.read { rec1 with
          response := some st, pendingRecord := pending, repairSet := g, repairsOut := repairs }) } st
      let response := fun (st : Status) (d : LineData) => s.responses ++ [{ kind := .read, tag := t, status := st, data := d }]
      let record := fun (kind : RecKind) (g : PlaneSet) (outcome : RecOutcome) =>
        ({ kind := kind, origin := .host t r.region, line := some r.line, planes := g, outcome := outcome } : RecBody)
      let released := s.locks.filter fun y => y.line != r.line
      (copies.map Prod.fst).Nodup →
      (vote copies erred = .agreed d → erred = 0 → HoldsAlone s t r.line →
        run = .next { failureEnded p e { base.setTag t (answer .ok none 0 0) with
          responses := response .ok d, locks := released } with out := {} }) ∧
      (∀ kind g plain, vote copies erred = .agreed d ∧ erred ≠ 0 ∧ kind = .readError ∧ g = erred ∧ plain = .served ∨
          vote copies erred = .majority d m ∧ kind = .mismatch ∧ g = m ||| erred ∧ plain = .majorityServed →
        (HoldsAlone s t r.line →
          r.attrs.repair = false ∨ (∀ q, inSet g q = true → (base.plane q).state ≠ .online) →
            run = .next { failureEnded p e (postRecord (record kind g plain) { base.setTag t (answer .recovered none 0 0) with
              responses := response .recovered d, locks := released }) with out := {} }) ∧
        (r.attrs.repair = true → (∃ q, inSet g q = true ∧ (base.plane q).state = .online) →
          (∀ q, inSet g q = true → (base.plane q).state = .online → IssuesAtOnce base q) →
            ∃ repairs, (∀ q, inSet repairs q = true ↔ inSet g q = true ∧ (base.plane q).state = .online) ∧
              ∃ u, run = .next u ∧
                (∀ q, u.port q = if inSet repairs q = true then (base.port q).withIssued s.now
                  { owner := .host t, line := r.line, body := .write (BitVec.allOnes 64) d } else base.port q) ∧
                u.tags = (s.setTag t (answer .recovered none repairs repairs)).tags ∧
                u = { failureEnded p e (postRecord (record kind g .repaired) base) with
                  ports := u.ports, tags := u.tags, out := u.out, responses := response .recovered d })) ∧
      (HoldsAlone s t r.line →
        (s.suspects.length < 16 → (∀ y ∈ s.suspects, y.line ≠ r.line) → ∀ reason kind g marked,
          vote copies erred = .split ∧ reason = .noMajority ∧ kind = .mismatch ∧
              (∀ q, inSet marked q = true ↔ ∃ c ∈ copies, c.1 = q) ∧ g = marked ||| erred ∨
            vote copies erred = .noGoodCopy ∧ reason = .noGoodCopy ∧ kind = .readError ∧ marked = erred ∧ g = erred →
          run = .next { failureEnded p e (postRecord (record kind g .unresolved)
            { base.setTag t (answer .poison none rec_.repairSet rec_.repairsOut) with
              responses := response .poison 0, locks := released
              suspects := s.suspects ++ [{ line := r.line, reason := reason, planes := marked }] }) with out := {} }) ∧
        (vote copies erred = .nothing →
          run = .next { failureEnded p e { base.setTag t (answer .noPlane rec_.pendingRecord rec_.repairSet rec_.repairsOut) with
            responses := response .noPlane 0, locks := released } with out := {} }))

/-- Ends on a sweep line. A REBUILD copy is written in full to each target still SYNCING, with READ_ERROR recorded SERVED after an
error; a DATA_ERROR makes the next ONLINE plane the source, and with none left the suspect table takes the line, READ_ERROR is
recorded UNRESOLVED and the line is done, or, the table full, UNTRACKED and the job is ABORTING. The last target or repair write's
OK end counts the line and releases it. A VERIFY or SCRUB vote counts a mismatch where the copies differ and records MISMATCH, or
READ_ERROR after an error: UNRESOLVED with no copy to trust, which a SCRUB marks suspect; REPAIRED, with full-line writes, where a
SCRUB finds such a plane ONLINE; else MAJORITY_SERVED or SERVED. But for a repair the line is counted and released; the job goes on
with another slot in flight and no line left to claim. The first DATA_ERROR of a line counts an error. Nothing else changes. -/
def Obligations.SweepLineEnds : Prop :=
  ∀ (p : PlaneId) (k : SlotId) (x : QueuedOp) (xs : List QueuedOp) (w : SlotWork) (j : Job) (data : LineData) (s : State),
    (s.port p).queue = x :: xs → (s.port p).hostList = [] → (s.port p).sweepList = [] → InTime s xs → s.slot k = some w →
    s.sweep.job = some j → NothingDue s →
      let popped := s.setPort p { s.port p with queue := xs }
      let goesOn := s.sweep.engine = .running ∧ j.last < j.cursor ∧ (∃ v, v ≠ k ∧ s.slot v ≠ none) ∧
        (s.locks.map LockEntry.line).Nodup ∧ (∃ e ∈ s.locks, e.line = w.line ∧ e.holders = [.slot k] ∧ e.waiting = []) ∧
        ∀ e ∈ s.locks, .slot k ∈ e.holders → e.line = w.line
      let released := s.locks.filter fun e => e.line != w.line
      let takes := fun (u : State) (q : PlaneId) => IssuesAtOnce u q ∧ (u.port q).hostGrants = 0
      let record := fun (kind : RecKind) (g : PlaneSet) (outcome : RecOutcome) =>
        ({ kind := kind, origin := .sweep j.id, line := some w.line, planes := g, outcome := outcome } : RecBody)
      let writes := fun (u base : State) (g : PlaneSet) (d : LineData) => ∀ q, u.port q = if inSet g q = true then
        (base.port q).withIssued s.now { owner := .slot k, line := w.line, body := .write (BitVec.allOnes 64) d } else base.port q
      ((s.plane p).state = .online → x.op = { owner := .slot k, line := w.line, body := .read } → j.kind = .rebuild →
        (∃ q, inSet j.targets q = true ∧ (s.plane q).state = .syncing) →
        (∀ q, inSet j.targets q = true → (s.plane q).state = .syncing → takes s q) →
          ∃ g, (∀ q, inSet g q = true ↔ inSet j.targets q = true ∧ (s.plane q).state = .syncing) ∧
            ∃ u, exec (.readResponse p x.slot (s.port p).gen 0x00 data) s = .next u ∧ writes u popped g data ∧
              (∀ v, u.slot v = if v = k then some { w with
                outstanding := dropPlane w.outstanding p, copies := w.copies ++ [(p, data)], writesOut := g } else s.slot v) ∧
              u = { if w.erred = 0 then s else postRecord (record .readError w.erred .served) s with
                ports := u.ports, sweep := { s.sweep with slots := u.sweep.slots }, out := u.out }) ∧
      (∀ mask d, x.op = { owner := .slot k, line := w.line, body := .write mask d } →
        (s.plane p).state = .syncing ∧ (j.kind = .rebuild ∨ j.kind = .fill) ∨ (s.plane p).state = .online ∧ j.kind = .scrub →
        w.writesOut = onePlane p → goesOn →
          exec (.writeResponse p x.slot (s.port p).gen 0x00) s = .next
            { (popped.setSlot k none).setJob { j with linesDone := j.linesDone + 1 } with locks := released, out := {} }) ∧
      ∀ e, e = .readOk data ∨ e = .dataError → OldestEnds s p x xs e →
        x.op = { owner := .slot k, line := w.line, body := .read } →
        let run := exec (endCommand s p x data e) s
        let base := planeEnded p xs e s
        let copies := if e = .readOk data then w.copies ++ [(p, data)] else w.copies
        let erred := if e = .dataError then addPlane w.erred p else w.erred
        let j1 := { j with errors := if e = .dataError ∧ w.erred = 0 then min (j.errors + 1) 65535 else j.errors }
        let done := fun (j2 : Job) =>
          ({ (base.setSlot k none).setJob { j2 with linesDone := j2.linesDone + 1 } with locks := released } : State)
        (j.kind = .rebuild → e = .dataError →
          let source := fun q => (s.plane q).state = .online ∧ inSet w.tried q = false
          (∀ q : PlaneId, source q → (∀ v, source v → q ≤ v) → q ≠ p → takes s q →
            run = .next { ((base.setPort q ((s.port q).withIssued s.now x.op)).setSlot k (some { w with
                erred := erred, tried := addPlane w.tried q, outstanding := onePlane q })).setJob j1 with
              out := { ops := [(q, ⟨x.op, (s.port q).nextSlot, (s.port q).gen, s.now⟩)] } }) ∧
          ((∀ q, ¬source q) → goesOn → (∀ y ∈ s.suspects, y.line ≠ w.line) →
            (s.suspects.length < 16 → run = .next { postRecord (record .readError erred .unresolved) { done j1 with
              suspects := s.suspects ++ [{ line := w.line, reason := .noGoodCopy, planes := erred }] } with out := {} }) ∧
            (16 ≤ s.suspects.length → ∃ u, run = .next u ∧ u.sticky &&& causeSuspectFull = causeSuspectFull ∧
              u = { postRecord (record .readError erred .untracked) (done { j1 with outcome := some .abortedSuspectFull }) with
                out := {}, sticky := u.sticky
                sweep := { (done { j1 with outcome := some .abortedSuspectFull }).sweep with engine := .aborting } }))) ∧
        (j.kind = .verify ∨ j.kind = .scrub → w.outstanding = onePlane p → (copies.map Prod.fst).Nodup →
          (∀ d, goesOn → vote copies erred = .agreed d → erred = 0 → run = .next { done j1 with out := {} }) ∧
          (∀ reason kind g marked, goesOn → vote copies erred = .split ∧ reason = .noMajority ∧ kind = .mismatch ∧
                (∀ q, inSet marked q = true ↔ ∃ c ∈ copies, c.1 = q) ∧ g = marked ||| erred ∨
              vote copies erred = .noGoodCopy ∧ reason = .noGoodCopy ∧ kind = .readError ∧ marked = erred ∧ g = erred →
            j.kind = .verify ∨ s.suspects.length < 16 ∧ (∀ y ∈ s.suspects, y.line ≠ w.line) →
            run = .next { postRecord (record kind g .unresolved) { done (if kind = .mismatch then
                { j1 with mismatches := min (j.mismatches + 1) 65535 } else j1) with
              suspects := if j.kind = .verify then s.suspects
                else s.suspects ++ [{ line := w.line, reason := reason, planes := marked }] } with out := {} }) ∧
          ∀ d m kind g plain, vote copies erred = .agreed d ∧ erred ≠ 0 ∧ kind = .readError ∧ g = erred ∧ plain = .served ∨
              vote copies erred = .majority d m ∧ kind = .mismatch ∧ g = m ||| erred ∧ plain = .majorityServed →
            let j2 := if kind = .mismatch then { j1 with mismatches := min (j.mismatches + 1) 65535 } else j1
            (goesOn → j.kind = .verify ∨ (∀ q, inSet g q = true → (s.plane q).state ≠ .online) →
              run = .next { postRecord (record kind g plain) (done j2) with out := {} }) ∧
            (j.kind = .scrub → (∃ q, inSet g q = true ∧ (s.plane q).state = .online) →
              (∀ q, inSet g q = true → (s.plane q).state = .online → takes base q) →
                ∃ repairs, (∀ q, inSet repairs q = true ↔ inSet g q = true ∧ (s.plane q).state = .online) ∧
                  ∃ u, run = .next u ∧ writes u base repairs d ∧
                    (∀ v, u.slot v = if v = k then some { w with
                      outstanding := 0, copies := copies, erred := erred, writesOut := repairs } else s.slot v) ∧
                    u = { postRecord (record kind g .repaired) (base.setJob j2) with
                      ports := u.ports, sweep := { (base.setJob j2).sweep with slots := u.sweep.slots }, out := u.out }))

/-- Given as a command (log entry 1), ISSUE moves one op into the plane queue with the next slot, the generation and the time:
the host-side head unless the sweep list waits and the counter has reached the share. With the queue full, the link DOWN or both
lists empty nothing changes. -/
def Obligations.IssueGrantsOne : Prop :=
  ∀ (p : PlaneId) (s : State),
    let issued := fun (op : Op) (port : Port) => { s.setPort p (port.withIssued s.now op) with
      out := { ops := [(p, { op := op, slot := (s.port p).nextSlot, gen := (s.port p).gen, issuedAt := s.now })] } }
    ((s.plane p).link = .down ∨ 16 ≤ (s.port p).queue.length ∨ (s.port p).hostList = [] ∧ (s.port p).sweepList = [] →
      exec (.issue p) s = .next { s with out := {} }) ∧
    ((s.plane p).link = .up → (s.port p).queue.length < 16 →
      (∀ op ops, (s.port p).hostList = op :: ops →
        (s.port p).sweepList = [] ∨ (s.port p).hostGrants < s.sweepShare →
          exec (.issue p) s = .next (issued op { s.port p with
            hostList := ops
            hostGrants := (s.port p).hostGrants + if (s.port p).sweepList = [] then 0 else 1 })) ∧
      (∀ op ops, (s.port p).sweepList = op :: ops →
        (s.port p).hostList = [] ∨ s.sweepShare ≤ (s.port p).hostGrants →
          exec (.issue p) s = .next (issued op { s.port p with sweepList := ops, hostGrants := 0 })))

/-! ## Steps inside the part -/

/-- Given as commands (the model's choice, log entry 1), GRANT, HELD_BACK_CLAIM and SWEEP_CLAIM take their step where it is due
and change nothing where it is not: a waiting READ of a suspect line is granted and answered POISON; a held-back READ with no
plane ONLINE is placed and answered NO_PLANE; the cursor line is claimed behind its holder and the cursor advances. -/
def Obligations.ClaimSteps : Prop :=
  ∀ (t : Tag) (line : LineWord) (r : Request) (s : State),
    (∀ e ∈ s.locks, e.line = line.toNat → (s.locks.map LockEntry.line).Nodup →
      (e.holders ≠ [] → exec (.grant line) s = .next { s with out := {} }) ∧
      (e.holders = [] → e.waiting = [{ pos := .host t, kind := .hostRead }] → holdsLine s (.host t) = false →
        s.position t = { kept := none, heldBack := none } → s.tag t = .inWork r → r.kind = .read → r.line = line.toNat →
        r.work = some (.read {}) → (∃ x ∈ s.suspects, x.line = line.toNat) →
          exec (.grant line) s = .next { s.setTag t
              (.queued { r with work := some (.read { response := some .poison }) } .poison) with
            responses := s.responses ++ [{ kind := .read, tag := t, status := .poison, data := 0 }], out := {}
            locks := s.locks.filter fun x => x.line != line.toNat })) ∧
    ((s.position t).kept ≠ none ∨ (s.position t).heldBack = none → exec (.heldBackClaim t) s = .next { s with out := {} }) ∧
    (s.position t = { kept := none, heldBack := some { kind := .hostRead, line := line.toNat } } →
      lockOf s.locks line.toNat = none → holdsLine s (.host t) = false → s.tag t = .inWork r → r.kind = .read →
      r.line = line.toNat → r.work = some (.read {}) → (∀ x ∈ s.suspects, x.line ≠ line.toNat) →
      (∀ p, (s.plane p).state ≠ .online) →
        exec (.heldBackClaim t) s = .next { (s.setTag t
            (.queued { r with work := some (.read { response := some .noPlane }) } .noPlane)).setPosition t
              { kept := none, heldBack := none } with
          responses := s.responses ++ [{ kind := .read, tag := t, status := .noPlane, data := 0 }], out := {} }) ∧
    (s.sweep.engine ≠ .running → exec .sweepClaim s = .next { s with out := {} }) ∧
    ∀ j, s.sweep.job = some j → s.sweep.engine = .running →
      (j.last < j.cursor ∨ j.window ≤ (slotsInFlight s).length → exec .sweepClaim s = .next { s with out := {} }) ∧
      ∀ k : SlotId, ∀ e ∈ s.locks, j.cursor ≤ j.last → (slotsInFlight s).length + 1 = j.window → s.slot k = none →
        (∀ m, m < k → s.slot m ≠ none) → e.line = j.cursor → (s.locks.map LockEntry.line).Nodup →
          exec .sweepClaim s = .next
            { (s.setSlot k (some { line := j.cursor })).setJob { j with cursor := j.cursor + 1 } with
              out := {}
              locks := s.locks.map fun x => if x.line = j.cursor then
                { x with waiting := x.waiting ++ [{ pos := .slot k, kind := .sweep }] } else x }

/-- Given as commands (the model's choice, log entry 1), JOB_COMPLETE, ABORT_END, ENDING_RECORD_PLACED and DETACH_DRAIN_END take
their step where it is due: targets still SYNCING become ONLINE with count 0, or OFFLINE with their counts, the completion
record joins the queue or waits in ENDING, a drained plane becomes OFFLINE with DONE posted. Where the step is not due nothing
changes. -/
def Obligations.EndSteps : Prop :=
  ∀ s : State,
    let ended := fun (j : Job) (o : JobOutcome) (t : State) =>
      (∀ p : PlaneId, t.plane p = if inSet j.targets p = true ∧ (s.plane p).state = .syncing then
        (if o = .complete then { s.plane p with state := .online, errorCount := 0 }
          else { s.plane p with state := .offline }) else s.plane p) ∧
      (let c : CompletionRec := ⟨j.id, j.kind, o, j.linesDone, j.mismatches, j.errors, j.cursor⟩;
        (s.sweep.completions.length < 4 → t.sweep = { s.sweep with
          engine := .idle, job := some { j with outcome := some o }, completions := s.sweep.completions ++ [c] }) ∧
        (4 ≤ s.sweep.completions.length → t.sweep = { s.sweep with
          engine := .ending, job := some { j with outcome := some o }, waiting := some c })) ∧
      t = { s with planes := t.planes, sweep := t.sweep, out := {} }
    (∀ j, s.sweep.job = some j →
      (s.sweep.engine = .running → j.last < j.cursor → noSlotInFlight s = true →
        ∃ t, exec .jobComplete s = .next t ∧ ended j .complete t) ∧
      (s.sweep.engine ≠ .running ∨ j.cursor ≤ j.last ∨ noSlotInFlight s = false →
        exec .jobComplete s = .next { s with out := {} }) ∧
      (∀ o, s.sweep.engine = .aborting → j.outcome = some o → o ≠ .complete → noSlotInFlight s = true →
        targetsDrained s j = true → ∃ t, exec .abortEnd s = .next t ∧ ended j o t) ∧
      (s.sweep.engine ≠ .aborting ∨ noSlotInFlight s = false ∨ targetsDrained s j = false →
        exec .abortEnd s = .next { s with out := {} })) ∧
    (s.sweep.engine ≠ .ending ∨ 4 ≤ s.sweep.completions.length →
      exec .endingRecordPlaced s = .next { s with out := {} }) ∧
    (∀ c, s.sweep.engine = .ending → s.sweep.waiting = some c → s.sweep.completions.length < 4 →
      exec .endingRecordPlaced s = .next { s with out := {}, sweep := { s.sweep with
        completions := s.sweep.completions ++ [c], waiting := none, engine := .idle } }) ∧
    ∀ p : PlaneId,
      ((s.plane p).state ≠ .detaching ∨ (s.port p).isEmpty = false →
        exec (.detachDrainEnd p) s = .next { s with out := {} }) ∧
      ((s.plane p).state = .detaching → (s.port p).isEmpty = true → exec (.detachDrainEnd p) s = .next
        { s.setPlane p { s.plane p with state := .offline } with
          out := {}, mgmt := { s.mgmt with result := some { code := .done, payload := [] }, busy := false } })

/-! ## Shared operations -/

/-- The vote: one group is agreed; of divided copies the group of more than half is the majority, with the planes of the others its
minority, and where no group is so large they are split; with no copy the vote is NO_GOOD_COPY after an error and else nothing. The
order in which the copies came does not matter. -/
def Obligations.VoteRule : Prop :=
  ∀ (copies : List (PlaneId × LineData)) (erred : PlaneSet),
    (∀ d, vote copies erred = .agreed d ↔ copies ≠ [] ∧ ∀ c ∈ copies, c.2 = d) ∧
    (∀ d, (∃ m, vote copies erred = .majority d m) ↔
      copies.length < 2 * (copies.filter fun c => c.2 == d).length ∧ ∃ c ∈ copies, c.2 ≠ d) ∧
    (∀ d m, vote copies erred = .majority d m → (copies.map Prod.fst).Nodup →
      ∀ p, inSet m p = true ↔ ∃ c ∈ copies, c.1 = p ∧ c.2 ≠ d) ∧
    (vote copies erred = .split ↔ (∃ a ∈ copies, ∃ b ∈ copies, a.2 ≠ b.2) ∧
      ∀ d, 2 * (copies.filter fun c => c.2 == d).length ≤ copies.length) ∧
    (copies = [] → vote copies erred = if erred = 0 then .nothing else .noGoodCopy) ∧
    ∀ other, copies.Perm other → vote other erred = vote copies erred

/-- A lock entry grants from the head of its waiting list and lets nothing overtake: nothing while holders remain, one exclusive
claim, or the head's whole run of READs, which then leaves no READ at the head. -/
def Obligations.LockGrants : Prop :=
  ∀ e : LockEntry,
    (e.holders ≠ [] → e.advance = (some e, [])) ∧
    (e.holders = [] → e.waiting = [] → e.advance = (none, [])) ∧
    (∀ c cs, e.holders = [] → e.waiting = c :: cs →
      (c.kind ≠ .hostRead →
        e.advance = (some { e with kind := some c.kind, holders := [c.pos], waiting := cs }, [c.pos])) ∧
      (c.kind = .hostRead → ∃ run rest, e.waiting = run ++ rest ∧ run ≠ [] ∧ (∀ x ∈ run, x.kind = .hostRead) ∧
        (∀ x ∈ rest.head?, x.kind ≠ .hostRead) ∧
        e.advance = (some { e with kind := some .hostRead, holders := run.map Claim.pos, waiting := rest },
          run.map Claim.pos)))

/-- A posting merges into a newest record of its kind, origin and line, PLANE_FAILED apart; else it is appended with the next
seq, or meets a full log: discarded in KEEP_OLDEST, in place of the oldest in KEEP_NEWEST, counted and LOG_OVERFLOW set in both.
An addition to the suspect table replaces its line's entry, else is appended, else is FULL and sets SUSPECT_FULL. -/
def Obligations.PostingAndAdding : Prop :=
  (∀ (b : RecBody) (s : State),
    let newest := s.log.records.getLast?
    let matches_ := ∃ d ∈ newest, b.kind = d.body.kind ∧ b.origin.code = d.body.origin.code ∧ b.line = d.body.line ∧
      b.kind ≠ .planeFailed
    let overflowed := fun (l : DivLog) =>
      { s with log := { l with overflow := min (s.log.overflow + 1) 65535 }, sticky := s.sticky ||| causeLogOverflow }
    let fresh : DivRec := { seq := s.log.nextSeq, body := b, repeats := 1 }
    (∀ d, newest = some d → matches_ → postRecord b s = { s with log := { s.log with
      records := s.log.records.dropLast ++ [{ d with
        body := { b with planes := d.body.planes ||| b.planes }, repeats := min (d.repeats + 1) 255 }] } }) ∧
    (¬matches_ → s.log.records.length < 64 → postRecord b s = { s with log := { s.log with
      records := s.log.records ++ [fresh], nextSeq := s.log.nextSeq + 1 } }) ∧
    (¬matches_ → 64 ≤ s.log.records.length → s.log.mode = .keepOldest → postRecord b s = overflowed s.log) ∧
    (¬matches_ → 64 ≤ s.log.records.length → s.log.mode = .keepNewest → postRecord b s = overflowed { s.log with
      records := s.log.records.tail ++ [fresh], nextSeq := s.log.nextSeq + 1 })) ∧
  ∀ (e : SuspectEntry) (s : State),
    ((∃ x ∈ s.suspects, x.line = e.line) → addSuspect e s =
      ({ s with suspects := s.suspects.map fun x => if x.line = e.line then e else x }, true)) ∧
    ((∀ x ∈ s.suspects, x.line ≠ e.line) →
      (s.suspects.length < 16 → addSuspect e s = ({ s with suspects := s.suspects ++ [e] }, true)) ∧
      (16 ≤ s.suspects.length → addSuspect e s = ({ s with sticky := s.sticky ||| causeSuspectFull }, false)))
end

