-- ==== Sys2Proof/Laws/State.lean ====
section
/-! SUPPORT. What each named update of the state leaves and what it writes: one lemma for each field it leaves, and the read of
what it writes. True by unfolding, so that no later proof unfolds a record update. -/

namespace Sys2Proof.Machine

/-! ## State.setPlane -/

@[simp] theorem State.setPlane_pending (s : State) (p : PlaneId) (x : PlaneRec) : (s.setPlane p x).pending = s.pending := rfl
@[simp] theorem State.setPlane_pins (s : State) (p : PlaneId) (x : PlaneRec) : (s.setPlane p x).pins = s.pins := rfl
@[simp] theorem State.setPlane_now (s : State) (p : PlaneId) (x : PlaneRec) : (s.setPlane p x).now = s.now := rfl
@[simp] theorem State.setPlane_service (s : State) (p : PlaneId) (x : PlaneRec) : (s.setPlane p x).service = s.service := rfl
@[simp] theorem State.setPlane_geometry (s : State) (p : PlaneId) (x : PlaneRec) : (s.setPlane p x).geometry = s.geometry := rfl
@[simp] theorem State.setPlane_errorLimit (s : State) (p : PlaneId) (x : PlaneRec) : (s.setPlane p x).errorLimit = s.errorLimit := rfl
@[simp] theorem State.setPlane_regions (s : State) (p : PlaneId) (x : PlaneRec) : (s.setPlane p x).regions = s.regions := rfl
@[simp] theorem State.setPlane_defaultAttrs (s : State) (p : PlaneId) (x : PlaneRec) : (s.setPlane p x).defaultAttrs = s.defaultAttrs := rfl
@[simp] theorem State.setPlane_locks (s : State) (p : PlaneId) (x : PlaneRec) : (s.setPlane p x).locks = s.locks := rfl
@[simp] theorem State.setPlane_positions (s : State) (p : PlaneId) (x : PlaneRec) : (s.setPlane p x).positions = s.positions := rfl
@[simp] theorem State.setPlane_tags (s : State) (p : PlaneId) (x : PlaneRec) : (s.setPlane p x).tags = s.tags := rfl
@[simp] theorem State.setPlane_responses (s : State) (p : PlaneId) (x : PlaneRec) : (s.setPlane p x).responses = s.responses := rfl
@[simp] theorem State.setPlane_protoErr (s : State) (p : PlaneId) (x : PlaneRec) : (s.setPlane p x).protoErr = s.protoErr := rfl
@[simp] theorem State.setPlane_requestAssembly (s : State) (p : PlaneId) (x : PlaneRec) : (s.setPlane p x).requestAssembly = s.requestAssembly := rfl
@[simp] theorem State.setPlane_rotation (s : State) (p : PlaneId) (x : PlaneRec) : (s.setPlane p x).rotation = s.rotation := rfl
@[simp] theorem State.setPlane_ports (s : State) (p : PlaneId) (x : PlaneRec) : (s.setPlane p x).ports = s.ports := rfl
@[simp] theorem State.setPlane_planeTimeout (s : State) (p : PlaneId) (x : PlaneRec) : (s.setPlane p x).planeTimeout = s.planeTimeout := rfl
@[simp] theorem State.setPlane_sweepShare (s : State) (p : PlaneId) (x : PlaneRec) : (s.setPlane p x).sweepShare = s.sweepShare := rfl
@[simp] theorem State.setPlane_sweep (s : State) (p : PlaneId) (x : PlaneRec) : (s.setPlane p x).sweep = s.sweep := rfl
@[simp] theorem State.setPlane_log (s : State) (p : PlaneId) (x : PlaneRec) : (s.setPlane p x).log = s.log := rfl
@[simp] theorem State.setPlane_suspects (s : State) (p : PlaneId) (x : PlaneRec) : (s.setPlane p x).suspects = s.suspects := rfl
@[simp] theorem State.setPlane_mgmt (s : State) (p : PlaneId) (x : PlaneRec) : (s.setPlane p x).mgmt = s.mgmt := rfl
@[simp] theorem State.setPlane_sticky (s : State) (p : PlaneId) (x : PlaneRec) : (s.setPlane p x).sticky = s.sticky := rfl
@[simp] theorem State.setPlane_alertMask (s : State) (p : PlaneId) (x : PlaneRec) : (s.setPlane p x).alertMask = s.alertMask := rfl
@[simp] theorem State.setPlane_out (s : State) (p : PlaneId) (x : PlaneRec) : (s.setPlane p x).out = s.out := rfl

/-! ## State.setPort -/

@[simp] theorem State.setPort_pending (s : State) (p : PlaneId) (x : Port) : (s.setPort p x).pending = s.pending := rfl
@[simp] theorem State.setPort_pins (s : State) (p : PlaneId) (x : Port) : (s.setPort p x).pins = s.pins := rfl
@[simp] theorem State.setPort_now (s : State) (p : PlaneId) (x : Port) : (s.setPort p x).now = s.now := rfl
@[simp] theorem State.setPort_planes (s : State) (p : PlaneId) (x : Port) : (s.setPort p x).planes = s.planes := rfl
@[simp] theorem State.setPort_service (s : State) (p : PlaneId) (x : Port) : (s.setPort p x).service = s.service := rfl
@[simp] theorem State.setPort_geometry (s : State) (p : PlaneId) (x : Port) : (s.setPort p x).geometry = s.geometry := rfl
@[simp] theorem State.setPort_errorLimit (s : State) (p : PlaneId) (x : Port) : (s.setPort p x).errorLimit = s.errorLimit := rfl
@[simp] theorem State.setPort_regions (s : State) (p : PlaneId) (x : Port) : (s.setPort p x).regions = s.regions := rfl
@[simp] theorem State.setPort_defaultAttrs (s : State) (p : PlaneId) (x : Port) : (s.setPort p x).defaultAttrs = s.defaultAttrs := rfl
@[simp] theorem State.setPort_locks (s : State) (p : PlaneId) (x : Port) : (s.setPort p x).locks = s.locks := rfl
@[simp] theorem State.setPort_positions (s : State) (p : PlaneId) (x : Port) : (s.setPort p x).positions = s.positions := rfl
@[simp] theorem State.setPort_tags (s : State) (p : PlaneId) (x : Port) : (s.setPort p x).tags = s.tags := rfl
@[simp] theorem State.setPort_responses (s : State) (p : PlaneId) (x : Port) : (s.setPort p x).responses = s.responses := rfl
@[simp] theorem State.setPort_protoErr (s : State) (p : PlaneId) (x : Port) : (s.setPort p x).protoErr = s.protoErr := rfl
@[simp] theorem State.setPort_requestAssembly (s : State) (p : PlaneId) (x : Port) : (s.setPort p x).requestAssembly = s.requestAssembly := rfl
@[simp] theorem State.setPort_rotation (s : State) (p : PlaneId) (x : Port) : (s.setPort p x).rotation = s.rotation := rfl
@[simp] theorem State.setPort_planeTimeout (s : State) (p : PlaneId) (x : Port) : (s.setPort p x).planeTimeout = s.planeTimeout := rfl
@[simp] theorem State.setPort_sweepShare (s : State) (p : PlaneId) (x : Port) : (s.setPort p x).sweepShare = s.sweepShare := rfl
@[simp] theorem State.setPort_sweep (s : State) (p : PlaneId) (x : Port) : (s.setPort p x).sweep = s.sweep := rfl
@[simp] theorem State.setPort_log (s : State) (p : PlaneId) (x : Port) : (s.setPort p x).log = s.log := rfl
@[simp] theorem State.setPort_suspects (s : State) (p : PlaneId) (x : Port) : (s.setPort p x).suspects = s.suspects := rfl
@[simp] theorem State.setPort_mgmt (s : State) (p : PlaneId) (x : Port) : (s.setPort p x).mgmt = s.mgmt := rfl
@[simp] theorem State.setPort_sticky (s : State) (p : PlaneId) (x : Port) : (s.setPort p x).sticky = s.sticky := rfl
@[simp] theorem State.setPort_alertMask (s : State) (p : PlaneId) (x : Port) : (s.setPort p x).alertMask = s.alertMask := rfl
@[simp] theorem State.setPort_out (s : State) (p : PlaneId) (x : Port) : (s.setPort p x).out = s.out := rfl

/-! ## State.setTag -/

@[simp] theorem State.setTag_pending (s : State) (t : Tag) (x : TagEntry) : (s.setTag t x).pending = s.pending := rfl
@[simp] theorem State.setTag_pins (s : State) (t : Tag) (x : TagEntry) : (s.setTag t x).pins = s.pins := rfl
@[simp] theorem State.setTag_now (s : State) (t : Tag) (x : TagEntry) : (s.setTag t x).now = s.now := rfl
@[simp] theorem State.setTag_planes (s : State) (t : Tag) (x : TagEntry) : (s.setTag t x).planes = s.planes := rfl
@[simp] theorem State.setTag_service (s : State) (t : Tag) (x : TagEntry) : (s.setTag t x).service = s.service := rfl
@[simp] theorem State.setTag_geometry (s : State) (t : Tag) (x : TagEntry) : (s.setTag t x).geometry = s.geometry := rfl
@[simp] theorem State.setTag_errorLimit (s : State) (t : Tag) (x : TagEntry) : (s.setTag t x).errorLimit = s.errorLimit := rfl
@[simp] theorem State.setTag_regions (s : State) (t : Tag) (x : TagEntry) : (s.setTag t x).regions = s.regions := rfl
@[simp] theorem State.setTag_defaultAttrs (s : State) (t : Tag) (x : TagEntry) : (s.setTag t x).defaultAttrs = s.defaultAttrs := rfl
@[simp] theorem State.setTag_locks (s : State) (t : Tag) (x : TagEntry) : (s.setTag t x).locks = s.locks := rfl
@[simp] theorem State.setTag_positions (s : State) (t : Tag) (x : TagEntry) : (s.setTag t x).positions = s.positions := rfl
@[simp] theorem State.setTag_responses (s : State) (t : Tag) (x : TagEntry) : (s.setTag t x).responses = s.responses := rfl
@[simp] theorem State.setTag_protoErr (s : State) (t : Tag) (x : TagEntry) : (s.setTag t x).protoErr = s.protoErr := rfl
@[simp] theorem State.setTag_requestAssembly (s : State) (t : Tag) (x : TagEntry) : (s.setTag t x).requestAssembly = s.requestAssembly := rfl
@[simp] theorem State.setTag_rotation (s : State) (t : Tag) (x : TagEntry) : (s.setTag t x).rotation = s.rotation := rfl
@[simp] theorem State.setTag_ports (s : State) (t : Tag) (x : TagEntry) : (s.setTag t x).ports = s.ports := rfl
@[simp] theorem State.setTag_planeTimeout (s : State) (t : Tag) (x : TagEntry) : (s.setTag t x).planeTimeout = s.planeTimeout := rfl
@[simp] theorem State.setTag_sweepShare (s : State) (t : Tag) (x : TagEntry) : (s.setTag t x).sweepShare = s.sweepShare := rfl
@[simp] theorem State.setTag_sweep (s : State) (t : Tag) (x : TagEntry) : (s.setTag t x).sweep = s.sweep := rfl
@[simp] theorem State.setTag_log (s : State) (t : Tag) (x : TagEntry) : (s.setTag t x).log = s.log := rfl
@[simp] theorem State.setTag_suspects (s : State) (t : Tag) (x : TagEntry) : (s.setTag t x).suspects = s.suspects := rfl
@[simp] theorem State.setTag_mgmt (s : State) (t : Tag) (x : TagEntry) : (s.setTag t x).mgmt = s.mgmt := rfl
@[simp] theorem State.setTag_sticky (s : State) (t : Tag) (x : TagEntry) : (s.setTag t x).sticky = s.sticky := rfl
@[simp] theorem State.setTag_alertMask (s : State) (t : Tag) (x : TagEntry) : (s.setTag t x).alertMask = s.alertMask := rfl
@[simp] theorem State.setTag_out (s : State) (t : Tag) (x : TagEntry) : (s.setTag t x).out = s.out := rfl

/-! ## State.setPosition -/

@[simp] theorem State.setPosition_pending (s : State) (t : Tag) (x : HostPos) : (s.setPosition t x).pending = s.pending := rfl
@[simp] theorem State.setPosition_pins (s : State) (t : Tag) (x : HostPos) : (s.setPosition t x).pins = s.pins := rfl
@[simp] theorem State.setPosition_now (s : State) (t : Tag) (x : HostPos) : (s.setPosition t x).now = s.now := rfl
@[simp] theorem State.setPosition_planes (s : State) (t : Tag) (x : HostPos) : (s.setPosition t x).planes = s.planes := rfl
@[simp] theorem State.setPosition_service (s : State) (t : Tag) (x : HostPos) : (s.setPosition t x).service = s.service := rfl
@[simp] theorem State.setPosition_geometry (s : State) (t : Tag) (x : HostPos) : (s.setPosition t x).geometry = s.geometry := rfl
@[simp] theorem State.setPosition_errorLimit (s : State) (t : Tag) (x : HostPos) : (s.setPosition t x).errorLimit = s.errorLimit := rfl
@[simp] theorem State.setPosition_regions (s : State) (t : Tag) (x : HostPos) : (s.setPosition t x).regions = s.regions := rfl
@[simp] theorem State.setPosition_defaultAttrs (s : State) (t : Tag) (x : HostPos) : (s.setPosition t x).defaultAttrs = s.defaultAttrs := rfl
@[simp] theorem State.setPosition_locks (s : State) (t : Tag) (x : HostPos) : (s.setPosition t x).locks = s.locks := rfl
@[simp] theorem State.setPosition_tags (s : State) (t : Tag) (x : HostPos) : (s.setPosition t x).tags = s.tags := rfl
@[simp] theorem State.setPosition_responses (s : State) (t : Tag) (x : HostPos) : (s.setPosition t x).responses = s.responses := rfl
@[simp] theorem State.setPosition_protoErr (s : State) (t : Tag) (x : HostPos) : (s.setPosition t x).protoErr = s.protoErr := rfl
@[simp] theorem State.setPosition_requestAssembly (s : State) (t : Tag) (x : HostPos) : (s.setPosition t x).requestAssembly = s.requestAssembly := rfl
@[simp] theorem State.setPosition_rotation (s : State) (t : Tag) (x : HostPos) : (s.setPosition t x).rotation = s.rotation := rfl
@[simp] theorem State.setPosition_ports (s : State) (t : Tag) (x : HostPos) : (s.setPosition t x).ports = s.ports := rfl
@[simp] theorem State.setPosition_planeTimeout (s : State) (t : Tag) (x : HostPos) : (s.setPosition t x).planeTimeout = s.planeTimeout := rfl
@[simp] theorem State.setPosition_sweepShare (s : State) (t : Tag) (x : HostPos) : (s.setPosition t x).sweepShare = s.sweepShare := rfl
@[simp] theorem State.setPosition_sweep (s : State) (t : Tag) (x : HostPos) : (s.setPosition t x).sweep = s.sweep := rfl
@[simp] theorem State.setPosition_log (s : State) (t : Tag) (x : HostPos) : (s.setPosition t x).log = s.log := rfl
@[simp] theorem State.setPosition_suspects (s : State) (t : Tag) (x : HostPos) : (s.setPosition t x).suspects = s.suspects := rfl
@[simp] theorem State.setPosition_mgmt (s : State) (t : Tag) (x : HostPos) : (s.setPosition t x).mgmt = s.mgmt := rfl
@[simp] theorem State.setPosition_sticky (s : State) (t : Tag) (x : HostPos) : (s.setPosition t x).sticky = s.sticky := rfl
@[simp] theorem State.setPosition_alertMask (s : State) (t : Tag) (x : HostPos) : (s.setPosition t x).alertMask = s.alertMask := rfl
@[simp] theorem State.setPosition_out (s : State) (t : Tag) (x : HostPos) : (s.setPosition t x).out = s.out := rfl

/-! ## State.setSlot -/

@[simp] theorem State.setSlot_pending (s : State) (k : SlotId) (x : Option SlotWork) : (s.setSlot k x).pending = s.pending := rfl
@[simp] theorem State.setSlot_pins (s : State) (k : SlotId) (x : Option SlotWork) : (s.setSlot k x).pins = s.pins := rfl
@[simp] theorem State.setSlot_now (s : State) (k : SlotId) (x : Option SlotWork) : (s.setSlot k x).now = s.now := rfl
@[simp] theorem State.setSlot_planes (s : State) (k : SlotId) (x : Option SlotWork) : (s.setSlot k x).planes = s.planes := rfl
@[simp] theorem State.setSlot_service (s : State) (k : SlotId) (x : Option SlotWork) : (s.setSlot k x).service = s.service := rfl
@[simp] theorem State.setSlot_geometry (s : State) (k : SlotId) (x : Option SlotWork) : (s.setSlot k x).geometry = s.geometry := rfl
@[simp] theorem State.setSlot_errorLimit (s : State) (k : SlotId) (x : Option SlotWork) : (s.setSlot k x).errorLimit = s.errorLimit := rfl
@[simp] theorem State.setSlot_regions (s : State) (k : SlotId) (x : Option SlotWork) : (s.setSlot k x).regions = s.regions := rfl
@[simp] theorem State.setSlot_defaultAttrs (s : State) (k : SlotId) (x : Option SlotWork) : (s.setSlot k x).defaultAttrs = s.defaultAttrs := rfl
@[simp] theorem State.setSlot_locks (s : State) (k : SlotId) (x : Option SlotWork) : (s.setSlot k x).locks = s.locks := rfl
@[simp] theorem State.setSlot_positions (s : State) (k : SlotId) (x : Option SlotWork) : (s.setSlot k x).positions = s.positions := rfl
@[simp] theorem State.setSlot_tags (s : State) (k : SlotId) (x : Option SlotWork) : (s.setSlot k x).tags = s.tags := rfl
@[simp] theorem State.setSlot_responses (s : State) (k : SlotId) (x : Option SlotWork) : (s.setSlot k x).responses = s.responses := rfl
@[simp] theorem State.setSlot_protoErr (s : State) (k : SlotId) (x : Option SlotWork) : (s.setSlot k x).protoErr = s.protoErr := rfl
@[simp] theorem State.setSlot_requestAssembly (s : State) (k : SlotId) (x : Option SlotWork) : (s.setSlot k x).requestAssembly = s.requestAssembly := rfl
@[simp] theorem State.setSlot_rotation (s : State) (k : SlotId) (x : Option SlotWork) : (s.setSlot k x).rotation = s.rotation := rfl
@[simp] theorem State.setSlot_ports (s : State) (k : SlotId) (x : Option SlotWork) : (s.setSlot k x).ports = s.ports := rfl
@[simp] theorem State.setSlot_planeTimeout (s : State) (k : SlotId) (x : Option SlotWork) : (s.setSlot k x).planeTimeout = s.planeTimeout := rfl
@[simp] theorem State.setSlot_sweepShare (s : State) (k : SlotId) (x : Option SlotWork) : (s.setSlot k x).sweepShare = s.sweepShare := rfl
@[simp] theorem State.setSlot_log (s : State) (k : SlotId) (x : Option SlotWork) : (s.setSlot k x).log = s.log := rfl
@[simp] theorem State.setSlot_suspects (s : State) (k : SlotId) (x : Option SlotWork) : (s.setSlot k x).suspects = s.suspects := rfl
@[simp] theorem State.setSlot_mgmt (s : State) (k : SlotId) (x : Option SlotWork) : (s.setSlot k x).mgmt = s.mgmt := rfl
@[simp] theorem State.setSlot_sticky (s : State) (k : SlotId) (x : Option SlotWork) : (s.setSlot k x).sticky = s.sticky := rfl
@[simp] theorem State.setSlot_alertMask (s : State) (k : SlotId) (x : Option SlotWork) : (s.setSlot k x).alertMask = s.alertMask := rfl
@[simp] theorem State.setSlot_out (s : State) (k : SlotId) (x : Option SlotWork) : (s.setSlot k x).out = s.out := rfl
@[simp] theorem State.setSlot_sweep_engine (s : State) (k : SlotId) (x : Option SlotWork) : (s.setSlot k x).sweep.engine = s.sweep.engine := rfl
@[simp] theorem State.setSlot_sweep_job (s : State) (k : SlotId) (x : Option SlotWork) : (s.setSlot k x).sweep.job = s.sweep.job := rfl
@[simp] theorem State.setSlot_sweep_jobCounter (s : State) (k : SlotId) (x : Option SlotWork) : (s.setSlot k x).sweep.jobCounter = s.sweep.jobCounter := rfl
@[simp] theorem State.setSlot_sweep_completions (s : State) (k : SlotId) (x : Option SlotWork) : (s.setSlot k x).sweep.completions = s.sweep.completions := rfl
@[simp] theorem State.setSlot_sweep_waiting (s : State) (k : SlotId) (x : Option SlotWork) : (s.setSlot k x).sweep.waiting = s.sweep.waiting := rfl

/-! ## State.setJob -/

@[simp] theorem State.setJob_pending (s : State) (j : Job) : (s.setJob j).pending = s.pending := rfl
@[simp] theorem State.setJob_pins (s : State) (j : Job) : (s.setJob j).pins = s.pins := rfl
@[simp] theorem State.setJob_now (s : State) (j : Job) : (s.setJob j).now = s.now := rfl
@[simp] theorem State.setJob_planes (s : State) (j : Job) : (s.setJob j).planes = s.planes := rfl
@[simp] theorem State.setJob_service (s : State) (j : Job) : (s.setJob j).service = s.service := rfl
@[simp] theorem State.setJob_geometry (s : State) (j : Job) : (s.setJob j).geometry = s.geometry := rfl
@[simp] theorem State.setJob_errorLimit (s : State) (j : Job) : (s.setJob j).errorLimit = s.errorLimit := rfl
@[simp] theorem State.setJob_regions (s : State) (j : Job) : (s.setJob j).regions = s.regions := rfl
@[simp] theorem State.setJob_defaultAttrs (s : State) (j : Job) : (s.setJob j).defaultAttrs = s.defaultAttrs := rfl
@[simp] theorem State.setJob_locks (s : State) (j : Job) : (s.setJob j).locks = s.locks := rfl
@[simp] theorem State.setJob_positions (s : State) (j : Job) : (s.setJob j).positions = s.positions := rfl
@[simp] theorem State.setJob_tags (s : State) (j : Job) : (s.setJob j).tags = s.tags := rfl
@[simp] theorem State.setJob_responses (s : State) (j : Job) : (s.setJob j).responses = s.responses := rfl
@[simp] theorem State.setJob_protoErr (s : State) (j : Job) : (s.setJob j).protoErr = s.protoErr := rfl
@[simp] theorem State.setJob_requestAssembly (s : State) (j : Job) : (s.setJob j).requestAssembly = s.requestAssembly := rfl
@[simp] theorem State.setJob_rotation (s : State) (j : Job) : (s.setJob j).rotation = s.rotation := rfl
@[simp] theorem State.setJob_ports (s : State) (j : Job) : (s.setJob j).ports = s.ports := rfl
@[simp] theorem State.setJob_planeTimeout (s : State) (j : Job) : (s.setJob j).planeTimeout = s.planeTimeout := rfl
@[simp] theorem State.setJob_sweepShare (s : State) (j : Job) : (s.setJob j).sweepShare = s.sweepShare := rfl
@[simp] theorem State.setJob_log (s : State) (j : Job) : (s.setJob j).log = s.log := rfl
@[simp] theorem State.setJob_suspects (s : State) (j : Job) : (s.setJob j).suspects = s.suspects := rfl
@[simp] theorem State.setJob_mgmt (s : State) (j : Job) : (s.setJob j).mgmt = s.mgmt := rfl
@[simp] theorem State.setJob_sticky (s : State) (j : Job) : (s.setJob j).sticky = s.sticky := rfl
@[simp] theorem State.setJob_alertMask (s : State) (j : Job) : (s.setJob j).alertMask = s.alertMask := rfl
@[simp] theorem State.setJob_out (s : State) (j : Job) : (s.setJob j).out = s.out := rfl
@[simp] theorem State.setJob_sweep_engine (s : State) (j : Job) : (s.setJob j).sweep.engine = s.sweep.engine := rfl
@[simp] theorem State.setJob_sweep_slots (s : State) (j : Job) : (s.setJob j).sweep.slots = s.sweep.slots := rfl
@[simp] theorem State.setJob_sweep_jobCounter (s : State) (j : Job) : (s.setJob j).sweep.jobCounter = s.sweep.jobCounter := rfl
@[simp] theorem State.setJob_sweep_completions (s : State) (j : Job) : (s.setJob j).sweep.completions = s.sweep.completions := rfl
@[simp] theorem State.setJob_sweep_waiting (s : State) (j : Job) : (s.setJob j).sweep.waiting = s.sweep.waiting := rfl
@[simp] theorem State.setJob_sweep_job (s : State) (j : Job) : (s.setJob j).sweep.job = some j := rfl

/-! ## State.quiet -/

@[simp] theorem State.quiet_pending (s : State) : s.quiet.pending = s.pending := rfl
@[simp] theorem State.quiet_pins (s : State) : s.quiet.pins = s.pins := rfl
@[simp] theorem State.quiet_now (s : State) : s.quiet.now = s.now := rfl
@[simp] theorem State.quiet_planes (s : State) : s.quiet.planes = s.planes := rfl
@[simp] theorem State.quiet_service (s : State) : s.quiet.service = s.service := rfl
@[simp] theorem State.quiet_geometry (s : State) : s.quiet.geometry = s.geometry := rfl
@[simp] theorem State.quiet_errorLimit (s : State) : s.quiet.errorLimit = s.errorLimit := rfl
@[simp] theorem State.quiet_regions (s : State) : s.quiet.regions = s.regions := rfl
@[simp] theorem State.quiet_defaultAttrs (s : State) : s.quiet.defaultAttrs = s.defaultAttrs := rfl
@[simp] theorem State.quiet_locks (s : State) : s.quiet.locks = s.locks := rfl
@[simp] theorem State.quiet_positions (s : State) : s.quiet.positions = s.positions := rfl
@[simp] theorem State.quiet_tags (s : State) : s.quiet.tags = s.tags := rfl
@[simp] theorem State.quiet_responses (s : State) : s.quiet.responses = s.responses := rfl
@[simp] theorem State.quiet_protoErr (s : State) : s.quiet.protoErr = s.protoErr := rfl
@[simp] theorem State.quiet_requestAssembly (s : State) : s.quiet.requestAssembly = s.requestAssembly := rfl
@[simp] theorem State.quiet_rotation (s : State) : s.quiet.rotation = s.rotation := rfl
@[simp] theorem State.quiet_ports (s : State) : s.quiet.ports = s.ports := rfl
@[simp] theorem State.quiet_planeTimeout (s : State) : s.quiet.planeTimeout = s.planeTimeout := rfl
@[simp] theorem State.quiet_sweepShare (s : State) : s.quiet.sweepShare = s.sweepShare := rfl
@[simp] theorem State.quiet_sweep (s : State) : s.quiet.sweep = s.sweep := rfl
@[simp] theorem State.quiet_log (s : State) : s.quiet.log = s.log := rfl
@[simp] theorem State.quiet_suspects (s : State) : s.quiet.suspects = s.suspects := rfl
@[simp] theorem State.quiet_mgmt (s : State) : s.quiet.mgmt = s.mgmt := rfl
@[simp] theorem State.quiet_sticky (s : State) : s.quiet.sticky = s.sticky := rfl
@[simp] theorem State.quiet_alertMask (s : State) : s.quiet.alertMask = s.alertMask := rfl
@[simp] theorem State.quiet_out (s : State) : s.quiet.out = {} := rfl

/-! ## setSticky -/

@[simp] theorem setSticky_pending (c : CauseSet) (s : State) : (setSticky c s).pending = s.pending := rfl
@[simp] theorem setSticky_pins (c : CauseSet) (s : State) : (setSticky c s).pins = s.pins := rfl
@[simp] theorem setSticky_now (c : CauseSet) (s : State) : (setSticky c s).now = s.now := rfl
@[simp] theorem setSticky_planes (c : CauseSet) (s : State) : (setSticky c s).planes = s.planes := rfl
@[simp] theorem setSticky_service (c : CauseSet) (s : State) : (setSticky c s).service = s.service := rfl
@[simp] theorem setSticky_geometry (c : CauseSet) (s : State) : (setSticky c s).geometry = s.geometry := rfl
@[simp] theorem setSticky_errorLimit (c : CauseSet) (s : State) : (setSticky c s).errorLimit = s.errorLimit := rfl
@[simp] theorem setSticky_regions (c : CauseSet) (s : State) : (setSticky c s).regions = s.regions := rfl
@[simp] theorem setSticky_defaultAttrs (c : CauseSet) (s : State) : (setSticky c s).defaultAttrs = s.defaultAttrs := rfl
@[simp] theorem setSticky_locks (c : CauseSet) (s : State) : (setSticky c s).locks = s.locks := rfl
@[simp] theorem setSticky_positions (c : CauseSet) (s : State) : (setSticky c s).positions = s.positions := rfl
@[simp] theorem setSticky_tags (c : CauseSet) (s : State) : (setSticky c s).tags = s.tags := rfl
@[simp] theorem setSticky_responses (c : CauseSet) (s : State) : (setSticky c s).responses = s.responses := rfl
@[simp] theorem setSticky_protoErr (c : CauseSet) (s : State) : (setSticky c s).protoErr = s.protoErr := rfl
@[simp] theorem setSticky_requestAssembly (c : CauseSet) (s : State) : (setSticky c s).requestAssembly = s.requestAssembly := rfl
@[simp] theorem setSticky_rotation (c : CauseSet) (s : State) : (setSticky c s).rotation = s.rotation := rfl
@[simp] theorem setSticky_ports (c : CauseSet) (s : State) : (setSticky c s).ports = s.ports := rfl
@[simp] theorem setSticky_planeTimeout (c : CauseSet) (s : State) : (setSticky c s).planeTimeout = s.planeTimeout := rfl
@[simp] theorem setSticky_sweepShare (c : CauseSet) (s : State) : (setSticky c s).sweepShare = s.sweepShare := rfl
@[simp] theorem setSticky_sweep (c : CauseSet) (s : State) : (setSticky c s).sweep = s.sweep := rfl
@[simp] theorem setSticky_log (c : CauseSet) (s : State) : (setSticky c s).log = s.log := rfl
@[simp] theorem setSticky_suspects (c : CauseSet) (s : State) : (setSticky c s).suspects = s.suspects := rfl
@[simp] theorem setSticky_mgmt (c : CauseSet) (s : State) : (setSticky c s).mgmt = s.mgmt := rfl
@[simp] theorem setSticky_alertMask (c : CauseSet) (s : State) : (setSticky c s).alertMask = s.alertMask := rfl
@[simp] theorem setSticky_out (c : CauseSet) (s : State) : (setSticky c s).out = s.out := rfl
@[simp] theorem setSticky_sticky (c : CauseSet) (s : State) : (setSticky c s).sticky = s.sticky ||| c := rfl

/-! ## setEngine -/

@[simp] theorem setEngine_pending (e : EngineState) (s : State) : (setEngine e s).pending = s.pending := rfl
@[simp] theorem setEngine_pins (e : EngineState) (s : State) : (setEngine e s).pins = s.pins := rfl
@[simp] theorem setEngine_now (e : EngineState) (s : State) : (setEngine e s).now = s.now := rfl
@[simp] theorem setEngine_planes (e : EngineState) (s : State) : (setEngine e s).planes = s.planes := rfl
@[simp] theorem setEngine_service (e : EngineState) (s : State) : (setEngine e s).service = s.service := rfl
@[simp] theorem setEngine_geometry (e : EngineState) (s : State) : (setEngine e s).geometry = s.geometry := rfl
@[simp] theorem setEngine_errorLimit (e : EngineState) (s : State) : (setEngine e s).errorLimit = s.errorLimit := rfl
@[simp] theorem setEngine_regions (e : EngineState) (s : State) : (setEngine e s).regions = s.regions := rfl
@[simp] theorem setEngine_defaultAttrs (e : EngineState) (s : State) : (setEngine e s).defaultAttrs = s.defaultAttrs := rfl
@[simp] theorem setEngine_locks (e : EngineState) (s : State) : (setEngine e s).locks = s.locks := rfl
@[simp] theorem setEngine_positions (e : EngineState) (s : State) : (setEngine e s).positions = s.positions := rfl
@[simp] theorem setEngine_tags (e : EngineState) (s : State) : (setEngine e s).tags = s.tags := rfl
@[simp] theorem setEngine_responses (e : EngineState) (s : State) : (setEngine e s).responses = s.responses := rfl
@[simp] theorem setEngine_protoErr (e : EngineState) (s : State) : (setEngine e s).protoErr = s.protoErr := rfl
@[simp] theorem setEngine_requestAssembly (e : EngineState) (s : State) : (setEngine e s).requestAssembly = s.requestAssembly := rfl
@[simp] theorem setEngine_rotation (e : EngineState) (s : State) : (setEngine e s).rotation = s.rotation := rfl
@[simp] theorem setEngine_ports (e : EngineState) (s : State) : (setEngine e s).ports = s.ports := rfl
@[simp] theorem setEngine_planeTimeout (e : EngineState) (s : State) : (setEngine e s).planeTimeout = s.planeTimeout := rfl
@[simp] theorem setEngine_sweepShare (e : EngineState) (s : State) : (setEngine e s).sweepShare = s.sweepShare := rfl
@[simp] theorem setEngine_log (e : EngineState) (s : State) : (setEngine e s).log = s.log := rfl
@[simp] theorem setEngine_suspects (e : EngineState) (s : State) : (setEngine e s).suspects = s.suspects := rfl
@[simp] theorem setEngine_mgmt (e : EngineState) (s : State) : (setEngine e s).mgmt = s.mgmt := rfl
@[simp] theorem setEngine_sticky (e : EngineState) (s : State) : (setEngine e s).sticky = s.sticky := rfl
@[simp] theorem setEngine_alertMask (e : EngineState) (s : State) : (setEngine e s).alertMask = s.alertMask := rfl
@[simp] theorem setEngine_out (e : EngineState) (s : State) : (setEngine e s).out = s.out := rfl
@[simp] theorem setEngine_sweep_job (e : EngineState) (s : State) : (setEngine e s).sweep.job = s.sweep.job := rfl
@[simp] theorem setEngine_sweep_slots (e : EngineState) (s : State) : (setEngine e s).sweep.slots = s.sweep.slots := rfl
@[simp] theorem setEngine_sweep_jobCounter (e : EngineState) (s : State) : (setEngine e s).sweep.jobCounter = s.sweep.jobCounter := rfl
@[simp] theorem setEngine_sweep_completions (e : EngineState) (s : State) : (setEngine e s).sweep.completions = s.sweep.completions := rfl
@[simp] theorem setEngine_sweep_waiting (e : EngineState) (s : State) : (setEngine e s).sweep.waiting = s.sweep.waiting := rfl
@[simp] theorem setEngine_sweep_engine (e : EngineState) (s : State) : (setEngine e s).sweep.engine = e := rfl

/-! ## postResult -/

@[simp] theorem postResult_pending (c : ResultCode) (l : List Byte) (s : State) : (postResult c l s).pending = s.pending := rfl
@[simp] theorem postResult_pins (c : ResultCode) (l : List Byte) (s : State) : (postResult c l s).pins = s.pins := rfl
@[simp] theorem postResult_now (c : ResultCode) (l : List Byte) (s : State) : (postResult c l s).now = s.now := rfl
@[simp] theorem postResult_planes (c : ResultCode) (l : List Byte) (s : State) : (postResult c l s).planes = s.planes := rfl
@[simp] theorem postResult_service (c : ResultCode) (l : List Byte) (s : State) : (postResult c l s).service = s.service := rfl
@[simp] theorem postResult_geometry (c : ResultCode) (l : List Byte) (s : State) : (postResult c l s).geometry = s.geometry := rfl
@[simp] theorem postResult_errorLimit (c : ResultCode) (l : List Byte) (s : State) : (postResult c l s).errorLimit = s.errorLimit := rfl
@[simp] theorem postResult_regions (c : ResultCode) (l : List Byte) (s : State) : (postResult c l s).regions = s.regions := rfl
@[simp] theorem postResult_defaultAttrs (c : ResultCode) (l : List Byte) (s : State) : (postResult c l s).defaultAttrs = s.defaultAttrs := rfl
@[simp] theorem postResult_locks (c : ResultCode) (l : List Byte) (s : State) : (postResult c l s).locks = s.locks := rfl
@[simp] theorem postResult_positions (c : ResultCode) (l : List Byte) (s : State) : (postResult c l s).positions = s.positions := rfl
@[simp] theorem postResult_tags (c : ResultCode) (l : List Byte) (s : State) : (postResult c l s).tags = s.tags := rfl
@[simp] theorem postResult_responses (c : ResultCode) (l : List Byte) (s : State) : (postResult c l s).responses = s.responses := rfl
@[simp] theorem postResult_protoErr (c : ResultCode) (l : List Byte) (s : State) : (postResult c l s).protoErr = s.protoErr := rfl
@[simp] theorem postResult_requestAssembly (c : ResultCode) (l : List Byte) (s : State) : (postResult c l s).requestAssembly = s.requestAssembly := rfl
@[simp] theorem postResult_rotation (c : ResultCode) (l : List Byte) (s : State) : (postResult c l s).rotation = s.rotation := rfl
@[simp] theorem postResult_ports (c : ResultCode) (l : List Byte) (s : State) : (postResult c l s).ports = s.ports := rfl
@[simp] theorem postResult_planeTimeout (c : ResultCode) (l : List Byte) (s : State) : (postResult c l s).planeTimeout = s.planeTimeout := rfl
@[simp] theorem postResult_sweepShare (c : ResultCode) (l : List Byte) (s : State) : (postResult c l s).sweepShare = s.sweepShare := rfl
@[simp] theorem postResult_sweep (c : ResultCode) (l : List Byte) (s : State) : (postResult c l s).sweep = s.sweep := rfl
@[simp] theorem postResult_log (c : ResultCode) (l : List Byte) (s : State) : (postResult c l s).log = s.log := rfl
@[simp] theorem postResult_suspects (c : ResultCode) (l : List Byte) (s : State) : (postResult c l s).suspects = s.suspects := rfl
@[simp] theorem postResult_sticky (c : ResultCode) (l : List Byte) (s : State) : (postResult c l s).sticky = s.sticky := rfl
@[simp] theorem postResult_alertMask (c : ResultCode) (l : List Byte) (s : State) : (postResult c l s).alertMask = s.alertMask := rfl
@[simp] theorem postResult_out (c : ResultCode) (l : List Byte) (s : State) : (postResult c l s).out = s.out := rfl
@[simp] theorem postResult_mgmt (c : ResultCode) (l : List Byte) (s : State) : (postResult c l s).mgmt = { s.mgmt with result := some { code := c, payload := l }, busy := false } := rfl

/-! ## removeSuspect -/

@[simp] theorem removeSuspect_pending (line : Nat) (s : State) : (removeSuspect line s).pending = s.pending := rfl
@[simp] theorem removeSuspect_pins (line : Nat) (s : State) : (removeSuspect line s).pins = s.pins := rfl
@[simp] theorem removeSuspect_now (line : Nat) (s : State) : (removeSuspect line s).now = s.now := rfl
@[simp] theorem removeSuspect_planes (line : Nat) (s : State) : (removeSuspect line s).planes = s.planes := rfl
@[simp] theorem removeSuspect_service (line : Nat) (s : State) : (removeSuspect line s).service = s.service := rfl
@[simp] theorem removeSuspect_geometry (line : Nat) (s : State) : (removeSuspect line s).geometry = s.geometry := rfl
@[simp] theorem removeSuspect_errorLimit (line : Nat) (s : State) : (removeSuspect line s).errorLimit = s.errorLimit := rfl
@[simp] theorem removeSuspect_regions (line : Nat) (s : State) : (removeSuspect line s).regions = s.regions := rfl
@[simp] theorem removeSuspect_defaultAttrs (line : Nat) (s : State) : (removeSuspect line s).defaultAttrs = s.defaultAttrs := rfl
@[simp] theorem removeSuspect_locks (line : Nat) (s : State) : (removeSuspect line s).locks = s.locks := rfl
@[simp] theorem removeSuspect_positions (line : Nat) (s : State) : (removeSuspect line s).positions = s.positions := rfl
@[simp] theorem removeSuspect_tags (line : Nat) (s : State) : (removeSuspect line s).tags = s.tags := rfl
@[simp] theorem removeSuspect_responses (line : Nat) (s : State) : (removeSuspect line s).responses = s.responses := rfl
@[simp] theorem removeSuspect_protoErr (line : Nat) (s : State) : (removeSuspect line s).protoErr = s.protoErr := rfl
@[simp] theorem removeSuspect_requestAssembly (line : Nat) (s : State) : (removeSuspect line s).requestAssembly = s.requestAssembly := rfl
@[simp] theorem removeSuspect_rotation (line : Nat) (s : State) : (removeSuspect line s).rotation = s.rotation := rfl
@[simp] theorem removeSuspect_ports (line : Nat) (s : State) : (removeSuspect line s).ports = s.ports := rfl
@[simp] theorem removeSuspect_planeTimeout (line : Nat) (s : State) : (removeSuspect line s).planeTimeout = s.planeTimeout := rfl
@[simp] theorem removeSuspect_sweepShare (line : Nat) (s : State) : (removeSuspect line s).sweepShare = s.sweepShare := rfl
@[simp] theorem removeSuspect_sweep (line : Nat) (s : State) : (removeSuspect line s).sweep = s.sweep := rfl
@[simp] theorem removeSuspect_log (line : Nat) (s : State) : (removeSuspect line s).log = s.log := rfl
@[simp] theorem removeSuspect_mgmt (line : Nat) (s : State) : (removeSuspect line s).mgmt = s.mgmt := rfl
@[simp] theorem removeSuspect_sticky (line : Nat) (s : State) : (removeSuspect line s).sticky = s.sticky := rfl
@[simp] theorem removeSuspect_alertMask (line : Nat) (s : State) : (removeSuspect line s).alertMask = s.alertMask := rfl
@[simp] theorem removeSuspect_out (line : Nat) (s : State) : (removeSuspect line s).out = s.out := rfl
@[simp] theorem removeSuspect_suspects (line : Nat) (s : State) : (removeSuspect line s).suspects = s.suspects.filter fun e => e.line != line := rfl

/-! ## State.setFrame and State.endFrame -/

@[simp] theorem State.setFrame_pending (s : State) (f : Option OpenFrame) : (s.setFrame f).pending = s.pending := rfl
@[simp] theorem State.setFrame_pins (s : State) (f : Option OpenFrame) : (s.setFrame f).pins = s.pins := rfl
@[simp] theorem State.setFrame_now (s : State) (f : Option OpenFrame) : (s.setFrame f).now = s.now := rfl
@[simp] theorem State.setFrame_planes (s : State) (f : Option OpenFrame) : (s.setFrame f).planes = s.planes := rfl
@[simp] theorem State.setFrame_service (s : State) (f : Option OpenFrame) : (s.setFrame f).service = s.service := rfl
@[simp] theorem State.setFrame_geometry (s : State) (f : Option OpenFrame) : (s.setFrame f).geometry = s.geometry := rfl
@[simp] theorem State.setFrame_errorLimit (s : State) (f : Option OpenFrame) : (s.setFrame f).errorLimit = s.errorLimit := rfl
@[simp] theorem State.setFrame_regions (s : State) (f : Option OpenFrame) : (s.setFrame f).regions = s.regions := rfl
@[simp] theorem State.setFrame_defaultAttrs (s : State) (f : Option OpenFrame) : (s.setFrame f).defaultAttrs = s.defaultAttrs := rfl
@[simp] theorem State.setFrame_locks (s : State) (f : Option OpenFrame) : (s.setFrame f).locks = s.locks := rfl
@[simp] theorem State.setFrame_positions (s : State) (f : Option OpenFrame) : (s.setFrame f).positions = s.positions := rfl
@[simp] theorem State.setFrame_tags (s : State) (f : Option OpenFrame) : (s.setFrame f).tags = s.tags := rfl
@[simp] theorem State.setFrame_responses (s : State) (f : Option OpenFrame) : (s.setFrame f).responses = s.responses := rfl
@[simp] theorem State.setFrame_protoErr (s : State) (f : Option OpenFrame) : (s.setFrame f).protoErr = s.protoErr := rfl
@[simp] theorem State.setFrame_requestAssembly (s : State) (f : Option OpenFrame) : (s.setFrame f).requestAssembly = s.requestAssembly := rfl
@[simp] theorem State.setFrame_rotation (s : State) (f : Option OpenFrame) : (s.setFrame f).rotation = s.rotation := rfl
@[simp] theorem State.setFrame_ports (s : State) (f : Option OpenFrame) : (s.setFrame f).ports = s.ports := rfl
@[simp] theorem State.setFrame_planeTimeout (s : State) (f : Option OpenFrame) : (s.setFrame f).planeTimeout = s.planeTimeout := rfl
@[simp] theorem State.setFrame_sweepShare (s : State) (f : Option OpenFrame) : (s.setFrame f).sweepShare = s.sweepShare := rfl
@[simp] theorem State.setFrame_sweep (s : State) (f : Option OpenFrame) : (s.setFrame f).sweep = s.sweep := rfl
@[simp] theorem State.setFrame_log (s : State) (f : Option OpenFrame) : (s.setFrame f).log = s.log := rfl
@[simp] theorem State.setFrame_suspects (s : State) (f : Option OpenFrame) : (s.setFrame f).suspects = s.suspects := rfl
@[simp] theorem State.setFrame_sticky (s : State) (f : Option OpenFrame) : (s.setFrame f).sticky = s.sticky := rfl
@[simp] theorem State.setFrame_alertMask (s : State) (f : Option OpenFrame) : (s.setFrame f).alertMask = s.alertMask := rfl
@[simp] theorem State.setFrame_out (s : State) (f : Option OpenFrame) : (s.setFrame f).out = s.out := rfl
@[simp] theorem State.setFrame_mgmt (s : State) (f : Option OpenFrame) : (s.setFrame f).mgmt = { s.mgmt with frame := f } := rfl
@[simp] theorem State.endFrame_pending (s : State) : s.endFrame.pending = s.pending := rfl
@[simp] theorem State.endFrame_pins (s : State) : s.endFrame.pins = s.pins := rfl
@[simp] theorem State.endFrame_now (s : State) : s.endFrame.now = s.now := rfl
@[simp] theorem State.endFrame_planes (s : State) : s.endFrame.planes = s.planes := rfl
@[simp] theorem State.endFrame_service (s : State) : s.endFrame.service = s.service := rfl
@[simp] theorem State.endFrame_geometry (s : State) : s.endFrame.geometry = s.geometry := rfl
@[simp] theorem State.endFrame_errorLimit (s : State) : s.endFrame.errorLimit = s.errorLimit := rfl
@[simp] theorem State.endFrame_regions (s : State) : s.endFrame.regions = s.regions := rfl
@[simp] theorem State.endFrame_defaultAttrs (s : State) : s.endFrame.defaultAttrs = s.defaultAttrs := rfl
@[simp] theorem State.endFrame_locks (s : State) : s.endFrame.locks = s.locks := rfl
@[simp] theorem State.endFrame_positions (s : State) : s.endFrame.positions = s.positions := rfl
@[simp] theorem State.endFrame_tags (s : State) : s.endFrame.tags = s.tags := rfl
@[simp] theorem State.endFrame_responses (s : State) : s.endFrame.responses = s.responses := rfl
@[simp] theorem State.endFrame_protoErr (s : State) : s.endFrame.protoErr = s.protoErr := rfl
@[simp] theorem State.endFrame_requestAssembly (s : State) : s.endFrame.requestAssembly = s.requestAssembly := rfl
@[simp] theorem State.endFrame_rotation (s : State) : s.endFrame.rotation = s.rotation := rfl
@[simp] theorem State.endFrame_ports (s : State) : s.endFrame.ports = s.ports := rfl
@[simp] theorem State.endFrame_planeTimeout (s : State) : s.endFrame.planeTimeout = s.planeTimeout := rfl
@[simp] theorem State.endFrame_sweepShare (s : State) : s.endFrame.sweepShare = s.sweepShare := rfl
@[simp] theorem State.endFrame_sweep (s : State) : s.endFrame.sweep = s.sweep := rfl
@[simp] theorem State.endFrame_log (s : State) : s.endFrame.log = s.log := rfl
@[simp] theorem State.endFrame_suspects (s : State) : s.endFrame.suspects = s.suspects := rfl
@[simp] theorem State.endFrame_sticky (s : State) : s.endFrame.sticky = s.sticky := rfl
@[simp] theorem State.endFrame_alertMask (s : State) : s.endFrame.alertMask = s.alertMask := rfl
@[simp] theorem State.endFrame_out (s : State) : s.endFrame.out = s.out := rfl
@[simp] theorem State.endFrame_mgmt (s : State) : s.endFrame.mgmt = { s.mgmt with frame := none, assembly := [] } := rfl

/-! ## shiftOut -/

@[simp] theorem shiftOut_pending (n : Nat) (b : Byte) (l : List Byte) (s : State) : (shiftOut n b l s).pending = s.pending := rfl
@[simp] theorem shiftOut_pins (n : Nat) (b : Byte) (l : List Byte) (s : State) : (shiftOut n b l s).pins = s.pins := rfl
@[simp] theorem shiftOut_now (n : Nat) (b : Byte) (l : List Byte) (s : State) : (shiftOut n b l s).now = s.now := rfl
@[simp] theorem shiftOut_planes (n : Nat) (b : Byte) (l : List Byte) (s : State) : (shiftOut n b l s).planes = s.planes := rfl
@[simp] theorem shiftOut_service (n : Nat) (b : Byte) (l : List Byte) (s : State) : (shiftOut n b l s).service = s.service := rfl
@[simp] theorem shiftOut_geometry (n : Nat) (b : Byte) (l : List Byte) (s : State) : (shiftOut n b l s).geometry = s.geometry := rfl
@[simp] theorem shiftOut_errorLimit (n : Nat) (b : Byte) (l : List Byte) (s : State) : (shiftOut n b l s).errorLimit = s.errorLimit := rfl
@[simp] theorem shiftOut_regions (n : Nat) (b : Byte) (l : List Byte) (s : State) : (shiftOut n b l s).regions = s.regions := rfl
@[simp] theorem shiftOut_defaultAttrs (n : Nat) (b : Byte) (l : List Byte) (s : State) : (shiftOut n b l s).defaultAttrs = s.defaultAttrs := rfl
@[simp] theorem shiftOut_locks (n : Nat) (b : Byte) (l : List Byte) (s : State) : (shiftOut n b l s).locks = s.locks := rfl
@[simp] theorem shiftOut_positions (n : Nat) (b : Byte) (l : List Byte) (s : State) : (shiftOut n b l s).positions = s.positions := rfl
@[simp] theorem shiftOut_tags (n : Nat) (b : Byte) (l : List Byte) (s : State) : (shiftOut n b l s).tags = s.tags := rfl
@[simp] theorem shiftOut_responses (n : Nat) (b : Byte) (l : List Byte) (s : State) : (shiftOut n b l s).responses = s.responses := rfl
@[simp] theorem shiftOut_protoErr (n : Nat) (b : Byte) (l : List Byte) (s : State) : (shiftOut n b l s).protoErr = s.protoErr := rfl
@[simp] theorem shiftOut_requestAssembly (n : Nat) (b : Byte) (l : List Byte) (s : State) : (shiftOut n b l s).requestAssembly = s.requestAssembly := rfl
@[simp] theorem shiftOut_rotation (n : Nat) (b : Byte) (l : List Byte) (s : State) : (shiftOut n b l s).rotation = s.rotation := rfl
@[simp] theorem shiftOut_ports (n : Nat) (b : Byte) (l : List Byte) (s : State) : (shiftOut n b l s).ports = s.ports := rfl
@[simp] theorem shiftOut_planeTimeout (n : Nat) (b : Byte) (l : List Byte) (s : State) : (shiftOut n b l s).planeTimeout = s.planeTimeout := rfl
@[simp] theorem shiftOut_sweepShare (n : Nat) (b : Byte) (l : List Byte) (s : State) : (shiftOut n b l s).sweepShare = s.sweepShare := rfl
@[simp] theorem shiftOut_sweep (n : Nat) (b : Byte) (l : List Byte) (s : State) : (shiftOut n b l s).sweep = s.sweep := rfl
@[simp] theorem shiftOut_log (n : Nat) (b : Byte) (l : List Byte) (s : State) : (shiftOut n b l s).log = s.log := rfl
@[simp] theorem shiftOut_suspects (n : Nat) (b : Byte) (l : List Byte) (s : State) : (shiftOut n b l s).suspects = s.suspects := rfl
@[simp] theorem shiftOut_mgmt (n : Nat) (b : Byte) (l : List Byte) (s : State) : (shiftOut n b l s).mgmt = s.mgmt := rfl
@[simp] theorem shiftOut_sticky (n : Nat) (b : Byte) (l : List Byte) (s : State) : (shiftOut n b l s).sticky = s.sticky := rfl
@[simp] theorem shiftOut_alertMask (n : Nat) (b : Byte) (l : List Byte) (s : State) : (shiftOut n b l s).alertMask = s.alertMask := rfl

/-! ## Views through the updates -/

@[simp] theorem State.setFrame_plane (s : State) (f : Option OpenFrame) (q : PlaneId) : (s.setFrame f).plane q = s.plane q := rfl
@[simp] theorem State.endFrame_plane (s : State) (q : PlaneId) : s.endFrame.plane q = s.plane q := rfl
@[simp] theorem State.setFrame_port (s : State) (f : Option OpenFrame) (q : PlaneId) : (s.setFrame f).port q = s.port q := rfl
@[simp] theorem State.endFrame_port (s : State) (q : PlaneId) : s.endFrame.port q = s.port q := rfl
@[simp] theorem State.setFrame_tag (s : State) (f : Option OpenFrame) (u : Tag) : (s.setFrame f).tag u = s.tag u := rfl
@[simp] theorem State.endFrame_tag (s : State) (u : Tag) : s.endFrame.tag u = s.tag u := rfl
@[simp] theorem State.setFrame_position (s : State) (f : Option OpenFrame) (u : Tag) : (s.setFrame f).position u = s.position u := rfl
@[simp] theorem State.endFrame_position (s : State) (u : Tag) : s.endFrame.position u = s.position u := rfl
@[simp] theorem State.setFrame_slot (s : State) (f : Option OpenFrame) (m : SlotId) : (s.setFrame f).slot m = s.slot m := rfl
@[simp] theorem State.endFrame_slot (s : State) (m : SlotId) : s.endFrame.slot m = s.slot m := rfl
@[simp] theorem State.setPlane_port (s : State) (p : PlaneId) (x : PlaneRec) (q : PlaneId) : (s.setPlane p x).port q = s.port q := rfl
@[simp] theorem State.setPlane_tag (s : State) (p : PlaneId) (x : PlaneRec) (u : Tag) : (s.setPlane p x).tag u = s.tag u := rfl
@[simp] theorem State.setPlane_position (s : State) (p : PlaneId) (x : PlaneRec) (u : Tag) : (s.setPlane p x).position u = s.position u := rfl
@[simp] theorem State.setPlane_slot (s : State) (p : PlaneId) (x : PlaneRec) (m : SlotId) : (s.setPlane p x).slot m = s.slot m := rfl
@[simp] theorem State.setPort_plane (s : State) (p : PlaneId) (x : Port) (q : PlaneId) : (s.setPort p x).plane q = s.plane q := rfl
@[simp] theorem State.setPort_tag (s : State) (p : PlaneId) (x : Port) (u : Tag) : (s.setPort p x).tag u = s.tag u := rfl
@[simp] theorem State.setPort_position (s : State) (p : PlaneId) (x : Port) (u : Tag) : (s.setPort p x).position u = s.position u := rfl
@[simp] theorem State.setPort_slot (s : State) (p : PlaneId) (x : Port) (m : SlotId) : (s.setPort p x).slot m = s.slot m := rfl
@[simp] theorem State.setTag_plane (s : State) (t : Tag) (x : TagEntry) (q : PlaneId) : (s.setTag t x).plane q = s.plane q := rfl
@[simp] theorem State.setTag_port (s : State) (t : Tag) (x : TagEntry) (q : PlaneId) : (s.setTag t x).port q = s.port q := rfl
@[simp] theorem State.setTag_position (s : State) (t : Tag) (x : TagEntry) (u : Tag) : (s.setTag t x).position u = s.position u := rfl
@[simp] theorem State.setTag_slot (s : State) (t : Tag) (x : TagEntry) (m : SlotId) : (s.setTag t x).slot m = s.slot m := rfl
@[simp] theorem State.setPosition_plane (s : State) (t : Tag) (x : HostPos) (q : PlaneId) : (s.setPosition t x).plane q = s.plane q := rfl
@[simp] theorem State.setPosition_port (s : State) (t : Tag) (x : HostPos) (q : PlaneId) : (s.setPosition t x).port q = s.port q := rfl
@[simp] theorem State.setPosition_tag (s : State) (t : Tag) (x : HostPos) (u : Tag) : (s.setPosition t x).tag u = s.tag u := rfl
@[simp] theorem State.setPosition_slot (s : State) (t : Tag) (x : HostPos) (m : SlotId) : (s.setPosition t x).slot m = s.slot m := rfl
@[simp] theorem State.setSlot_plane (s : State) (k : SlotId) (x : Option SlotWork) (q : PlaneId) : (s.setSlot k x).plane q = s.plane q := rfl
@[simp] theorem State.setSlot_port (s : State) (k : SlotId) (x : Option SlotWork) (q : PlaneId) : (s.setSlot k x).port q = s.port q := rfl
@[simp] theorem State.setSlot_tag (s : State) (k : SlotId) (x : Option SlotWork) (u : Tag) : (s.setSlot k x).tag u = s.tag u := rfl
@[simp] theorem State.setSlot_position (s : State) (k : SlotId) (x : Option SlotWork) (u : Tag) : (s.setSlot k x).position u = s.position u := rfl
@[simp] theorem State.setJob_plane (s : State) (j : Job) (q : PlaneId) : (s.setJob j).plane q = s.plane q := rfl
@[simp] theorem State.setJob_port (s : State) (j : Job) (q : PlaneId) : (s.setJob j).port q = s.port q := rfl
@[simp] theorem State.setJob_tag (s : State) (j : Job) (u : Tag) : (s.setJob j).tag u = s.tag u := rfl
@[simp] theorem State.setJob_position (s : State) (j : Job) (u : Tag) : (s.setJob j).position u = s.position u := rfl
@[simp] theorem State.setJob_slot (s : State) (j : Job) (m : SlotId) : (s.setJob j).slot m = s.slot m := rfl
@[simp] theorem State.quiet_plane (s : State) (q : PlaneId) : s.quiet.plane q = s.plane q := rfl
@[simp] theorem State.quiet_port (s : State) (q : PlaneId) : s.quiet.port q = s.port q := rfl
@[simp] theorem State.quiet_tag (s : State) (u : Tag) : s.quiet.tag u = s.tag u := rfl
@[simp] theorem State.quiet_position (s : State) (u : Tag) : s.quiet.position u = s.position u := rfl
@[simp] theorem State.quiet_slot (s : State) (m : SlotId) : s.quiet.slot m = s.slot m := rfl
@[simp] theorem setSticky_plane (c : CauseSet) (s : State) (q : PlaneId) : (setSticky c s).plane q = s.plane q := rfl
@[simp] theorem setSticky_port (c : CauseSet) (s : State) (q : PlaneId) : (setSticky c s).port q = s.port q := rfl
@[simp] theorem setSticky_tag (c : CauseSet) (s : State) (u : Tag) : (setSticky c s).tag u = s.tag u := rfl
@[simp] theorem setSticky_position (c : CauseSet) (s : State) (u : Tag) : (setSticky c s).position u = s.position u := rfl
@[simp] theorem setSticky_slot (c : CauseSet) (s : State) (m : SlotId) : (setSticky c s).slot m = s.slot m := rfl
@[simp] theorem setEngine_plane (e : EngineState) (s : State) (q : PlaneId) : (setEngine e s).plane q = s.plane q := rfl
@[simp] theorem setEngine_port (e : EngineState) (s : State) (q : PlaneId) : (setEngine e s).port q = s.port q := rfl
@[simp] theorem setEngine_tag (e : EngineState) (s : State) (u : Tag) : (setEngine e s).tag u = s.tag u := rfl
@[simp] theorem setEngine_position (e : EngineState) (s : State) (u : Tag) : (setEngine e s).position u = s.position u := rfl
@[simp] theorem setEngine_slot (e : EngineState) (s : State) (m : SlotId) : (setEngine e s).slot m = s.slot m := rfl
@[simp] theorem postResult_plane (c : ResultCode) (l : List Byte) (s : State) (q : PlaneId) : (postResult c l s).plane q = s.plane q := rfl
@[simp] theorem postResult_port (c : ResultCode) (l : List Byte) (s : State) (q : PlaneId) : (postResult c l s).port q = s.port q := rfl
@[simp] theorem postResult_tag (c : ResultCode) (l : List Byte) (s : State) (u : Tag) : (postResult c l s).tag u = s.tag u := rfl
@[simp] theorem postResult_position (c : ResultCode) (l : List Byte) (s : State) (u : Tag) : (postResult c l s).position u = s.position u := rfl
@[simp] theorem postResult_slot (c : ResultCode) (l : List Byte) (s : State) (m : SlotId) : (postResult c l s).slot m = s.slot m := rfl
@[simp] theorem removeSuspect_plane (line : Nat) (s : State) (q : PlaneId) : (removeSuspect line s).plane q = s.plane q := rfl
@[simp] theorem removeSuspect_port (line : Nat) (s : State) (q : PlaneId) : (removeSuspect line s).port q = s.port q := rfl
@[simp] theorem removeSuspect_tag (line : Nat) (s : State) (u : Tag) : (removeSuspect line s).tag u = s.tag u := rfl
@[simp] theorem removeSuspect_position (line : Nat) (s : State) (u : Tag) : (removeSuspect line s).position u = s.position u := rfl
@[simp] theorem removeSuspect_slot (line : Nat) (s : State) (m : SlotId) : (removeSuspect line s).slot m = s.slot m := rfl
@[simp] theorem shiftOut_plane (n : Nat) (b : Byte) (l : List Byte) (s : State) (q : PlaneId) : (shiftOut n b l s).plane q = s.plane q := rfl
@[simp] theorem shiftOut_port (n : Nat) (b : Byte) (l : List Byte) (s : State) (q : PlaneId) : (shiftOut n b l s).port q = s.port q := rfl
@[simp] theorem shiftOut_tag (n : Nat) (b : Byte) (l : List Byte) (s : State) (u : Tag) : (shiftOut n b l s).tag u = s.tag u := rfl
@[simp] theorem shiftOut_position (n : Nat) (b : Byte) (l : List Byte) (s : State) (u : Tag) : (shiftOut n b l s).position u = s.position u := rfl
@[simp] theorem shiftOut_slot (n : Nat) (b : Byte) (l : List Byte) (s : State) (m : SlotId) : (shiftOut n b l s).slot m = s.slot m := rfl

/-- Reading what `setPlane` wrote, or what it left. -/
theorem State.setPlane_plane (s : State) (p : PlaneId) (x : PlaneRec) (q : PlaneId) : (s.setPlane p x).plane q = if q = p then x else s.plane q := by
  simp only [State.setPlane, State.plane, Fin.getElem_fin, Vector.getElem_set]
  by_cases h : q = p
  · simp [h]
  · have h' : ¬ p.val = q.val := fun e => h (Fin.ext e.symm)
    simp [h, h']

@[simp] theorem State.setPlane_plane_same (s : State) (p : PlaneId) (x : PlaneRec) : (s.setPlane p x).plane p = x := by
  simp [State.setPlane_plane]

theorem State.setPlane_plane_other (s : State) (p : PlaneId) (x : PlaneRec) (q : PlaneId) (h : q ≠ p) : (s.setPlane p x).plane q = s.plane q := by
  simp [State.setPlane_plane, h]

/-- Reading what `setPort` wrote, or what it left. -/
theorem State.setPort_port (s : State) (p : PlaneId) (x : Port) (q : PlaneId) : (s.setPort p x).port q = if q = p then x else s.port q := by
  simp only [State.setPort, State.port, Fin.getElem_fin, Vector.getElem_set]
  by_cases h : q = p
  · simp [h]
  · have h' : ¬ p.val = q.val := fun e => h (Fin.ext e.symm)
    simp [h, h']

@[simp] theorem State.setPort_port_same (s : State) (p : PlaneId) (x : Port) : (s.setPort p x).port p = x := by
  simp [State.setPort_port]

theorem State.setPort_port_other (s : State) (p : PlaneId) (x : Port) (q : PlaneId) (h : q ≠ p) : (s.setPort p x).port q = s.port q := by
  simp [State.setPort_port, h]

/-- Reading what `setTag` wrote, or what it left. -/
theorem State.setTag_tag (s : State) (t : Tag) (x : TagEntry) (q : Tag) : (s.setTag t x).tag q = if q = t then x else s.tag q := by
  simp only [State.setTag, State.tag, Fin.getElem_fin, Vector.getElem_set]
  by_cases h : q = t
  · simp [h]
  · have h' : ¬ t.val = q.val := fun e => h (Fin.ext e.symm)
    simp [h, h']

@[simp] theorem State.setTag_tag_same (s : State) (t : Tag) (x : TagEntry) : (s.setTag t x).tag t = x := by
  simp [State.setTag_tag]

theorem State.setTag_tag_other (s : State) (t : Tag) (x : TagEntry) (q : Tag) (h : q ≠ t) : (s.setTag t x).tag q = s.tag q := by
  simp [State.setTag_tag, h]

/-- Reading what `setPosition` wrote, or what it left. -/
theorem State.setPosition_position (s : State) (t : Tag) (x : HostPos) (q : Tag) : (s.setPosition t x).position q = if q = t then x else s.position q := by
  simp only [State.setPosition, State.position, Fin.getElem_fin, Vector.getElem_set]
  by_cases h : q = t
  · simp [h]
  · have h' : ¬ t.val = q.val := fun e => h (Fin.ext e.symm)
    simp [h, h']

@[simp] theorem State.setPosition_position_same (s : State) (t : Tag) (x : HostPos) : (s.setPosition t x).position t = x := by
  simp [State.setPosition_position]

theorem State.setPosition_position_other (s : State) (t : Tag) (x : HostPos) (q : Tag) (h : q ≠ t) : (s.setPosition t x).position q = s.position q := by
  simp [State.setPosition_position, h]

/-- Reading what `setSlot` wrote, or what it left. -/
theorem State.setSlot_slot (s : State) (k : SlotId) (x : Option SlotWork) (q : SlotId) : (s.setSlot k x).slot q = if q = k then x else s.slot q := by
  simp only [State.setSlot, State.slot, Fin.getElem_fin, Vector.getElem_set]
  by_cases h : q = k
  · simp [h]
  · have h' : ¬ k.val = q.val := fun e => h (Fin.ext e.symm)
    simp [h, h']

@[simp] theorem State.setSlot_slot_same (s : State) (k : SlotId) (x : Option SlotWork) : (s.setSlot k x).slot k = x := by
  simp [State.setSlot_slot]

theorem State.setSlot_slot_other (s : State) (k : SlotId) (x : Option SlotWork) (q : SlotId) (h : q ≠ k) : (s.setSlot k x).slot q = s.slot q := by
  simp [State.setSlot_slot, h]

end Sys2Proof.Machine
end

