-- ==== Sys2Proof/Laws/Ops.lean ====
section
/-! SUPPORT. What each shared operation can do: the fields it leaves, and the cases of what it writes. -/

namespace Sys2Proof.Machine

/-! ## The divergence log and the suspect table -/

/-- Two origins are the same exactly where they have the same code (R115, R189). -/
theorem sameOrigin_iff (a b : RecOrigin) : sameOrigin a b = true ↔ a.code = b.code := by
  cases a <;> cases b <;> simp [sameOrigin, RecOrigin.code]

/-- A posting writes the log and the sticky causes, and no other field. -/
theorem postRecord_frame (b : RecBody) (s : State) :
    postRecord b s = { s with log := (postRecord b s).log, sticky := (postRecord b s).sticky } := by
  unfold postRecord
  split
  · rfl
  · dsimp only; split <;> rfl

/-- A posting leaves mode and threshold. -/
theorem postRecord_log_settings (b : RecBody) (s : State) :
    (postRecord b s).log.mode = s.log.mode ∧ (postRecord b s).log.threshold = s.log.threshold := by
  unfold postRecord
  split
  · exact ⟨rfl, rfl⟩
  · dsimp only
    have h : (s.log.accept b).mode = s.log.mode ∧ (s.log.accept b).threshold = s.log.threshold := by
      unfold DivLog.accept
      split
      · split <;> exact ⟨rfl, rfl⟩
      · exact ⟨rfl, rfl⟩
    split <;> exact h

/-- A posting adds no sticky cause but LOG_OVERFLOW, and that one only at a full log. -/
theorem postRecord_sticky (b : RecBody) (s : State) :
    (postRecord b s).sticky = s.sticky ∨
      Config.logPlaces ≤ s.log.records.length ∧ (postRecord b s).sticky = s.sticky ||| causeLogOverflow := by
  unfold postRecord
  split
  · exact .inl rfl
  · dsimp only
    split
    · next h => exact .inr ⟨by simpa [DivLog.isFull] using h, rfl⟩
    · exact .inl rfl

/-- The log never holds more than its places after a posting that found it in its places. -/
theorem postRecord_length (b : RecBody) (s : State) (h : s.log.records.length ≤ Config.logPlaces) :
    (postRecord b s).log.records.length ≤ Config.logPlaces := by
  unfold postRecord
  split
  · next l hl =>
    unfold mergedRecords at hl
    split at hl
    · next d hd =>
      split at hl
      · cases hl
        have := List.length_pos_of_mem (List.mem_of_getLast? hd)
        simp; omega
      · cases hl
    · cases hl
  · have hk : (s.log.accept b).records.length ≤ Config.logPlaces := by
      unfold DivLog.accept
      split
      · split
        · exact h
        · simp [DivLog.append, DivLog.countOverflow]; simp [Config.logPlaces] at *; omega
      · next hf => simp [DivLog.append, DivLog.isFull] at *; omega
    dsimp only
    split
    · exact hk
    · exact hk

/-- An addition writes the table, or sets SUSPECT_FULL, and no other field. -/
theorem addSuspect_cases (e : SuspectEntry) (s : State) :
    (∃ l, suspectPut e s.suspects = some l ∧ addSuspect e s = ({ s with suspects := l }, true)) ∨
      suspectPut e s.suspects = none ∧ addSuspect e s = (setSticky causeSuspectFull s, false) := by
  unfold addSuspect
  split
  · next l h => exact .inl ⟨l, h, rfl⟩
  · next h => exact .inr ⟨h, rfl⟩

/-! ## Requests and responses -/

/-- A response is produced for a tag IN_WORK, and nothing happens for any other tag. -/
theorem produce_cases (t : Tag) (st : Status) (data : LineData) (s : State) :
    (∃ r, s.tag t = .inWork r ∧ produce t st data s =
      { s.setTag t (.queued (r.answered st) st) with
        responses := s.responses ++ [{ kind := r.kind, tag := t, status := st, data := data }] }) ∨
      (∀ r, s.tag t ≠ .inWork r) ∧ produce t st data s = s := by
  unfold produce
  split
  · next r h => exact .inl ⟨r, h, rfl⟩
  · next h => exact .inr ⟨h, rfl⟩

/-- Changing the bookkeeping of a host position writes its kept record or its tag entry, and no other field. -/
theorem setRequest_cases (t : Tag) (r : Request) (s : State) :
    (∃ k, (s.position t).kept = some k ∧ setRequest t r s = s.setPosition t { s.position t with kept := some r }) ∨
      (s.position t).kept = none ∧ setRequest t r s = s.setTag t ((s.tag t).withRequest r) := by
  unfold setRequest
  split
  · next k h => exact .inl ⟨k, h, rfl⟩
  · next h => exact .inr ⟨h, rfl⟩

/-! ## Plane ports -/

/-- A grant takes one op off the head of one list and appends it to the queue with the next slot and the generation. -/
theorem grantOne_cases (share now : Nat) (q q' : Port) (h : q.grantOne share now = some q') :
    q.queue.length < Config.queuePlaces ∧ ∃ op n,
      (q.hostList = op :: q'.hostList ∧ q'.sweepList = q.sweepList ∨
        q.sweepList = op :: q'.sweepList ∧ q'.hostList = q.hostList) ∧
      q' = { q with
        queue := q.queue ++ [{ op := op, slot := q.nextSlot, gen := q.gen, issuedAt := now }]
        nextSlot := q.nextSlot + 1
        hostList := q'.hostList
        sweepList := q'.sweepList
        hostGrants := n } := by
  unfold Port.grantOne at h
  split at h
  · next hl =>
    refine ⟨hl, ?_⟩
    split at h
    · cases h
    · split at h
      · cases h
      · next op ops hh => cases h; exact ⟨op, _, .inl ⟨hh, rfl⟩, rfl⟩
    · split at h
      · cases h
      · next op ops hh => cases h; exact ⟨op, _, .inr ⟨hh, rfl⟩, rfl⟩
  · cases h

/-- A grant of a plane's arbiter needs its link UP, and writes that port and the op messages sent. -/
theorem grantOp_cases (p : PlaneId) (s s' : State) (h : grantOp p s = some s') :
    (s.plane p).link = .up ∧ ∃ q ops, (s.port p).grantOne s.sweepShare s.now = some q ∧
      s' = { s.setPort p q with out := { s.out with ops := ops } } := by
  unfold grantOp at h
  split at h
  · next hl =>
    split at h
    · cases h
    · next q hq => cases h; exact ⟨hl, q, _, hq, rfl⟩
  · cases h

/-- What every grant keeps, a run of grants keeps. -/
theorem grantOps_keeps (P : State → Prop) (p : PlaneId) (hg : ∀ s s', P s → grantOp p s = some s' → P s') :
    ∀ n s, P s → P (grantOps n p s) := by
  intro n
  induction n with
  | zero => exact fun _ h => h
  | succ n ih =>
    intro s h
    unfold grantOps
    split
    · exact h
    · next s' hs => exact ih s' (hg s s' h hs)

/-- The arbiter going on granting keeps what every grant keeps. -/
theorem arbitrate_keeps (P : State → Prop) (p : PlaneId) (hg : ∀ s s', P s → grantOp p s = some s' → P s') (s : State)
    (h : P s) : P (arbitrate p s) := grantOps_keeps P p hg _ s h

/-- Placing an op on each plane of a set keeps what each placing keeps. -/
theorem placeOps_keeps (P : State → Prop) (op : Op) (hp : ∀ s p, P s → P (placeOp op s p)) (g : PlaneSet) (s : State)
    (h : P s) : P (placeOps op g s) := by
  unfold placeOps
  generalize planesOf g = l
  induction l generalizing s with
  | nil => exact h
  | cons p l ih => exact ih _ (hp s p h)

/-- Placing ops writes the ports and the op messages sent, and no other field. -/
theorem placeOp_frame (op : Op) (s : State) (p : PlaneId) :
    ∃ ports out, placeOp op s p = { s with ports := ports, out := out } := by
  have h0 : ∀ q, ∃ ports out, s.setPort p q = { s with ports := ports, out := out } := fun q => ⟨_, _, rfl⟩
  unfold placeOp
  dsimp only
  refine arbitrate_keeps (fun t => ∃ ports out, t = { s with ports := ports, out := out }) p ?_ _ ?_
  · rintro t t' ⟨ports, out, rfl⟩ h
    obtain ⟨_, q, ops, _, rfl⟩ := grantOp_cases _ _ _ h
    exact ⟨_, _, rfl⟩
  · exact h0 _

/-- Placing an op on each plane of a set writes the ports and the op messages sent, and no other field. -/
theorem placeOps_frame (op : Op) (g : PlaneSet) (s : State) :
    ∃ ports out, placeOps op g s = { s with ports := ports, out := out } := by
  refine placeOps_keeps (fun t => ∃ ports out, t = { s with ports := ports, out := out }) op ?_ g s ⟨_, _, rfl⟩
  rintro t p ⟨ports, out, rfl⟩
  obtain ⟨ports', out', h⟩ := placeOp_frame op { s with ports := ports, out := out } p
  exact ⟨_, _, h⟩

/-! ## The request assembly buffer -/

/-- A partly transferred request changes the request assembly buffer alone, and that only while the request path is ready. -/
theorem holdTransfers_eq (held : List Transfer) (s : State) :
    holdTransfers held s = { s with requestAssembly := if requestReady s then held else s.requestAssembly } := by
  unfold holdTransfers
  split <;> rfl

/-- A WRITE request is a header, a mask transfer and four data transfers (R184). -/
@[simp] theorem writeTransfers_length (t : Tag) (line : LineWord) (mask : ByteMask) (d : LineData) :
    (writeTransfers t line mask d).length = 6 := by
  simp [writeTransfers, transfersOfLine]

end Sys2Proof.Machine
end

