-- ==== Sys2Proof/Laws/Sets.lean ====
section
/-! SUPPORT. Plane sets through membership: one lemma for each operation on sets, and what the choices of a plane answer. -/

namespace Sys2Proof.Machine

/-- A plane is one of the four. -/
theorem plane_cases (p : PlaneId) : p = 0 ∨ p = 1 ∨ p = 2 ∨ p = 3 := by revert p; decide

/-- Every plane is in the list of planes. -/
@[simp] theorem mem_allPlanes (p : PlaneId) : p ∈ allPlanes := by revert p; decide

/-- Every slot is in the list of slots. -/
@[simp] theorem mem_allSlots (k : SlotId) : k ∈ allSlots := by revert k; decide

/-- Every tag is in the list of tags. -/
@[simp] theorem mem_allTags (t : Tag) : t ∈ allTags := List.mem_finRange t

@[simp] theorem inSet_zero (p : PlaneId) : inSet 0#4 p = false := by revert p; decide

@[simp] theorem inSet_onePlane (p q : PlaneId) : inSet (onePlane p) q = decide (q = p) := by revert p q; decide

@[simp] theorem inSet_addPlane (g : PlaneSet) (p q : PlaneId) : inSet (addPlane g p) q = (inSet g q || decide (q = p)) := by
  revert g p q; decide

@[simp] theorem inSet_dropPlane (g : PlaneSet) (p q : PlaneId) :
    inSet (dropPlane g p) q = (inSet g q && !decide (q = p)) := by revert g p q; decide

@[simp] theorem inSet_and (g h : PlaneSet) (p : PlaneId) : inSet (g &&& h) p = (inSet g p && inSet h p) := by
  simp [inSet]

@[simp] theorem inSet_or (g h : PlaneSet) (p : PlaneId) : inSet (g ||| h) p = (inSet g p || inSet h p) := by
  simp [inSet]

@[simp] theorem inSet_lessPlanes (g h : PlaneSet) (p : PlaneId) :
    inSet (lessPlanes g h) p = (inSet g p && !inSet h p) := by
  simp [inSet, lessPlanes]

@[simp] theorem inSet_planesWhere (f : PlaneId → Bool) (p : PlaneId) : inSet (planesWhere f) p = f p := by
  unfold planesWhere inSet
  rcases plane_cases p with rfl | rfl | rfl | rfl <;>
    cases f 0 <;> cases f 1 <;> cases f 2 <;> cases f 3 <;> decide

@[simp] theorem inSet_planesIn (s : State) (x : PlaneState) (p : PlaneId) :
    inSet (planesIn s x) p = ((s.plane p).state == x) := by simp [planesIn]

@[simp] theorem inSet_onlinePlanes (s : State) (p : PlaneId) :
    inSet (onlinePlanes s) p = ((s.plane p).state == .online) := by simp [onlinePlanes]

/-- Two sets with the same planes are the same set. -/
theorem planeSet_ext (g h : PlaneSet) (e : ∀ p, inSet g p = inSet h p) : g = h := by
  have e0 := e 0; have e1 := e 1; have e2 := e 2; have e3 := e 3
  revert e0 e1 e2 e3; clear e; revert g h; decide

/-- A set is empty where no plane is in it. -/
theorem planeSet_eq_zero (g : PlaneSet) : g = 0#4 ↔ ∀ p, inSet g p = false :=
  ⟨fun h p => by rw [h, inSet_zero], fun h => planeSet_ext g 0#4 fun p => by rw [h p, inSet_zero]⟩

theorem onlinePlanes_eq_zero (s : State) : onlinePlanes s = 0#4 ↔ ∀ p, (s.plane p).state ≠ .online := by
  rw [planeSet_eq_zero]; simp

theorem anyInService_iff (s : State) : anyInService s = true ↔ ∃ p, (s.plane p).state.inService = true := by
  simp [anyInService]

@[simp] theorem mem_planesOf (g : PlaneSet) (p : PlaneId) : p ∈ planesOf g ↔ inSet g p = true := by simp [planesOf]

theorem planesOf_nodup (g : PlaneSet) : (planesOf g).Nodup := by revert g; decide

/-- The lowest plane of a set is in it, and no lower one is; none where the set is empty. -/
theorem lowestPlane_eq_some (g : PlaneSet) (p : PlaneId) :
    lowestPlane g = some p ↔ inSet g p = true ∧ ∀ q, q < p → inSet g q = false := by revert g p; decide

theorem lowestPlane_eq_none (g : PlaneSet) : lowestPlane g = none ↔ g = 0#4 := by revert g; decide

/-- The next plane of a set is the one nearest after `p` in cyclic order. -/
theorem nextPlane_eq_some (p q : PlaneId) (g : PlaneSet) :
    nextPlane p g = some q ↔
      inSet g q = true ∧ ∀ r, inSet g r = true → (q - (p + 1)).val ≤ (r - (p + 1)).val := by revert g p q; decide

theorem nextPlane_eq_none (p : PlaneId) (g : PlaneSet) : nextPlane p g = none ↔ g = 0#4 := by revert g p; decide

end Sys2Proof.Machine
end

