-- ==== Sys2Proof/Laws/Events.lean ====
section
/-! SUPPORT. What the inner acts of an event can write, how a property of every act becomes one of a whole event, and when the end
of an event changes nothing. -/

namespace Sys2Proof.Machine

/-! ## What the inner acts leave -/

/-- What no inner act of an event writes: the queue of commands, the pins, the time, service, geometry, policies, regions, the
protocol error record, the assembly buffers and the management port. -/
def Inner (s t : State) : Prop :=
  t = { s with
    planes := t.planes, locks := t.locks, positions := t.positions, tags := t.tags, responses := t.responses
    rotation := t.rotation, ports := t.ports, sweep := t.sweep, log := t.log, suspects := t.suspects, sticky := t.sticky
    out := t.out }

theorem Inner.refl (s : State) : Inner s s := rfl

theorem Inner.trans {s t u : State} (h : Inner s t) (k : Inner t u) : Inner s u := by
  unfold Inner at *
  rw [k]
  conv => lhs; rw [h]

theorem inner_ite {c : Prop} [Decidable c] {s a b : State} (ha : Inner s a) (hb : Inner s b) :
    Inner s (if c then a else b) := by
  split
  · exact ha
  · exact hb

theorem inner_setPlane (s : State) (p : PlaneId) (x : PlaneRec) : Inner s (s.setPlane p x) := rfl
theorem inner_setPosition (s : State) (t : Tag) (x : HostPos) : Inner s (s.setPosition t x) := rfl
theorem inner_setTag (s : State) (t : Tag) (x : TagEntry) : Inner s (s.setTag t x) := rfl
theorem inner_setSlot (s : State) (k : SlotId) (x : Option SlotWork) : Inner s (s.setSlot k x) := rfl
theorem inner_setJob (s : State) (j : Job) : Inner s (s.setJob j) := rfl
theorem inner_setEngine (e : EngineState) (s : State) : Inner s (setEngine e s) := rfl
theorem inner_removeSuspect (line : Nat) (s : State) : Inner s (removeSuspect line s) := rfl
theorem inner_postRecord (b : RecBody) (s : State) : Inner s (postRecord b s) := by
  unfold Inner; rw [postRecord_frame]

theorem inner_addSuspect (e : SuspectEntry) (s : State) : Inner s (addSuspect e s).1 := by
  rcases addSuspect_cases e s with ⟨l, _, h⟩ | ⟨_, h⟩ <;> rw [h] <;> rfl

theorem inner_produce (t : Tag) (st : Status) (data : LineData) (s : State) : Inner s (produce t st data s) := by
  rcases produce_cases t st data s with ⟨r, _, h⟩ | ⟨_, h⟩ <;> rw [h] <;> rfl

theorem inner_setRequest (t : Tag) (r : Request) (s : State) : Inner s (setRequest t r s) := by
  rcases setRequest_cases t r s with ⟨k, _, h⟩ | ⟨_, h⟩ <;> rw [h] <;> rfl

theorem inner_placeOp (op : Op) (s : State) (p : PlaneId) : Inner s (placeOp op s p) := by
  obtain ⟨ports, out, h⟩ := placeOp_frame op s p
  rw [h]; rfl

theorem inner_placeOps (op : Op) (g : PlaneSet) (s : State) : Inner s (placeOps op g s) := by
  obtain ⟨ports, out, h⟩ := placeOps_frame op g s
  rw [h]; rfl

/-! ## The blocks -/

theorem inner_startWrite (t : Tag) (r : Request) (w : WriteRec) (s : State) : Inner s (startWrite t r w s).1 := by
  unfold startWrite
  dsimp only
  split
  · exact (inner_setRequest ..).trans (inner_produce ..)
  · split
    · exact (inner_setRequest ..).trans (inner_produce ..)
    · exact (inner_setRequest ..).trans (inner_placeOps ..)

theorem inner_answerWrite (t : Tag) (r : Request) (w : WriteRec) (e : OpEnd) (s : State) : Inner s (answerWrite t r w e s) := by
  unfold answerWrite
  split
  · split
    · exact inner_produce ..
    · exact .refl s
  · exact .refl s

theorem inner_endWrite (t : Tag) (r : Request) (w : WriteRec) (p : PlaneId) (e : OpEnd) (s : State) :
    Inner s (endWrite t r w p e s).1 := by
  unfold endWrite
  dsimp only
  have h := fun r' => inner_ite (c := removesSuspect w e = true)
    ((inner_setRequest t r' s).trans (inner_removeSuspect r.line _)) (inner_setRequest t r' s)
  exact (inner_ite (h _) ((h _).trans (inner_postRecord ..))).trans (inner_answerWrite ..)

theorem inner_serve (t : Tag) (r : Request) (x : ReadRec) (d : LineData) (st : Status) (kind : RecKind) (planes : PlaneSet)
    (s : State) : Inner s (serve t r x d st kind planes s).1 := by
  unfold serve
  dsimp only
  have h := fun r' op g => ((inner_produce t st d s).trans (inner_setRequest t r' _)).trans (inner_placeOps op g _)
  exact inner_ite (h ..) ((h ..).trans (inner_postRecord ..))

theorem inner_poison (t : Tag) (r : Request) (x : ReadRec) (reason : SuspectReason) (g : PlaneSet) (kind : RecKind)
    (planes : PlaneSet) (s : State) : Inner s (poison t r x reason g kind planes s).1 := by
  unfold poison
  dsimp only
  exact (((inner_produce ..).trans (inner_setRequest ..)).trans (inner_addSuspect ..)).trans (inner_postRecord ..)

theorem inner_readNoPlane (t : Tag) (s : State) : Inner s (readNoPlane t s).1 := inner_produce ..

theorem inner_rotateTo (select : ReadSelect) (p : PlaneId) (s : State) : Inner s (rotateTo select p s) := by
  cases select <;> rfl

theorem inner_askPlane (t : Tag) (r : Request) (x : ReadRec) (p : PlaneId) (s : State) : Inner s (askPlane t r x p s) :=
  (inner_setRequest ..).trans (inner_placeOp ..)

theorem inner_startRead (t : Tag) (r : Request) (x : ReadRec) (s : State) : Inner s (startRead t r x s).1 := by
  unfold startRead
  dsimp only
  split
  · exact inner_produce ..
  · split
    · exact (inner_setRequest ..).trans (inner_readNoPlane ..)
    · split
      · split
        · exact (inner_rotateTo ..).trans (inner_askPlane ..)
        · exact (inner_setRequest ..).trans (inner_readNoPlane ..)
      · exact (inner_setRequest ..).trans (inner_placeOps ..)

theorem inner_failOver (t : Tag) (r : Request) (x : ReadRec) (p : PlaneId) (s : State) : Inner s (failOver t r x p s).1 := by
  unfold failOver
  split
  · exact inner_askPlane ..
  · split
    · exact (inner_setRequest ..).trans (inner_readNoPlane ..)
    · exact inner_poison ..

theorem inner_settleCompare (t : Tag) (r : Request) (x : ReadRec) (s : State) : Inner s (settleCompare t r x s).1 := by
  unfold settleCompare
  split
  · exact (inner_setRequest ..).trans (inner_readNoPlane ..)
  · exact inner_poison ..
  · exact inner_serve ..
  · exact inner_serve ..
  · exact inner_poison ..

theorem inner_postPending (t : Tag) (r : Request) (x : ReadRec) (s : State) : Inner s (postPending t r x s) := by
  unfold postPending
  split
  · exact inner_postRecord ..
  · exact .refl s

theorem inner_endRead (t : Tag) (r : Request) (x : ReadRec) (p : PlaneId) (e : OpEnd) (s : State) :
    Inner s (endRead t r x p e s).1 := by
  unfold endRead
  dsimp only
  split
  · split
    · exact (inner_setRequest ..).trans (inner_postPending ..)
    · exact inner_setRequest ..
  · split
    · unfold endSingle
      split
      · exact inner_serve ..
      · exact inner_failOver ..
    · split
      · exact inner_settleCompare ..
      · exact inner_setRequest ..

theorem inner_endRepair (t : Tag) (r : Request) (x : ReadRec) (p : PlaneId) (s : State) : Inner s (endRepair t r x p s).1 :=
  inner_setRequest ..

theorem inner_finishLine (k : SlotId) (completed : Bool) (s : State) : Inner s (finishLine k completed s).1 := by
  unfold finishLine
  dsimp only
  split
  · split
    · exact inner_setJob ..
    · exact .refl s
  · exact .refl s

theorem inner_enterAborting (o : JobOutcome) (s : State) : Inner s (enterAborting o s) := by
  unfold enterAborting
  split
  · split
    · exact (inner_setJob ..).trans (inner_setEngine ..)
    · exact inner_setEngine ..
  · exact .refl s

theorem inner_writeTargets (k : SlotId) (w : SlotWork) (j : Job) (d : LineData) (s : State) :
    Inner s (writeTargets k w j d s).1 := by
  unfold writeTargets
  dsimp only
  split
  · exact (inner_setSlot ..).trans (inner_finishLine ..)
  · exact (inner_setSlot ..).trans (inner_placeOps ..)

theorem inner_noGoodSource (k : SlotId) (w : SlotWork) (j : Job) (s : State) : Inner s (noGoodSource k w j s).1 := by
  unfold noGoodSource
  dsimp only
  have h := (inner_setSlot s k (some w)).trans (inner_addSuspect { line := w.line, reason := .noGoodCopy, planes := w.erred } _)
  have h1 := fun b => h.trans (inner_postRecord b _)
  exact (inner_ite (h1 _) ((h1 _).trans (inner_enterAborting ..))).trans (inner_finishLine ..)

theorem inner_chooseSource (k : SlotId) (w : SlotWork) (j : Job) (s : State) : Inner s (chooseSource k w j s).1 := by
  unfold chooseSource
  split
  · next p _ =>
    exact (inner_setSlot s k (some { w with tried := addPlane w.tried p, outstanding := onePlane p })).trans
      (inner_placeOp { owner := .slot k, line := w.line, body := .read } _ p)
  · split
    · exact (inner_setSlot ..).trans (inner_finishLine ..)
    · exact inner_noGoodSource ..

theorem inner_copyArrived (k : SlotId) (w : SlotWork) (j : Job) (d : LineData) (s : State) :
    Inner s (copyArrived k w j d s).1 := by
  unfold copyArrived
  dsimp only
  refine Inner.trans ?_ (inner_writeTargets ..)
  split
  · exact .refl s
  · exact inner_postRecord ..

theorem inner_settleAgreed (k : SlotId) (w : SlotWork) (j : Job) (d : LineData) (kind : RecKind) (planes : PlaneSet)
    (s : State) : Inner s (settleAgreed k w j d kind planes s).1 := by
  unfold settleAgreed
  dsimp only
  have h := fun x op g => (inner_setSlot s k x).trans (inner_placeOps op g _)
  split
  · exact (inner_ite (h ..) ((h ..).trans (inner_postRecord ..))).trans (inner_finishLine ..)
  · exact inner_ite (h ..) ((h ..).trans (inner_postRecord ..))

theorem inner_settleDistrusted (k : SlotId) (w : SlotWork) (j : Job) (reason : SuspectReason) (g : PlaneSet) (kind : RecKind)
    (planes : PlaneSet) (s : State) : Inner s (settleDistrusted k w j reason g kind planes s).1 := by
  unfold settleDistrusted
  dsimp only
  split
  · exact (((inner_setSlot ..).trans (inner_addSuspect ..)).trans (inner_postRecord ..)).trans (inner_finishLine ..)
  · exact ((inner_setSlot ..).trans (inner_postRecord ..)).trans (inner_finishLine ..)

theorem inner_countMismatch (s : State) : Inner s (countMismatch s) := by
  unfold countMismatch
  split
  · exact inner_setJob ..
  · exact .refl s

theorem inner_settleVote (k : SlotId) (w : SlotWork) (j : Job) (s : State) : Inner s (settleVote k w j s).1 := by
  unfold settleVote
  split
  · exact (inner_setSlot ..).trans (inner_finishLine ..)
  · exact inner_settleDistrusted ..
  · exact inner_settleAgreed ..
  · exact (inner_countMismatch s).trans (inner_settleAgreed ..)
  · exact (inner_countMismatch s).trans (inner_settleDistrusted ..)

theorem inner_startCompare (k : SlotId) (w : SlotWork) (s : State) : Inner s (startCompare k w s).1 := by
  unfold startCompare
  dsimp only
  split
  · exact inner_finishLine ..
  · split
    · exact inner_finishLine ..
    · exact (inner_setSlot ..).trans (inner_placeOps ..)

theorem inner_startSlot (k : SlotId) (s : State) : Inner s (startSlot k s).1 := by
  unfold startSlot
  split
  · split
    · split
      · exact inner_finishLine ..
      · exact inner_chooseSource ..
    · exact inner_writeTargets ..
    · exact inner_startCompare ..
    · exact inner_startCompare ..
  · exact .refl s

theorem inner_endSlotRead (k : SlotId) (w : SlotWork) (j : Job) (p : PlaneId) (e : OpEnd) (s : State) :
    Inner s (endSlotRead k w j p e s).1 := by
  unfold endSlotRead
  dsimp only
  have hc : Inner s (match e with
      | .readOk d => copyArrived k (w.ended p e) (countError w j e) d (s.setJob (countError w j e))
      | _ => chooseSource k (w.ended p e) (countError w j e) (s.setJob (countError w j e))).1 := by
    split
    · exact (inner_setJob s _).trans (inner_copyArrived ..)
    · exact (inner_setJob s _).trans (inner_chooseSource ..)
  have hv : Inner s (if (w.ended p e).outstanding = 0 then
      settleVote k (w.ended p e) (countError w j e) (s.setJob (countError w j e))
      else ((s.setJob (countError w j e)).setSlot k (some (w.ended p e)), [])).1 := by
    split
    · exact (inner_setJob s _).trans (inner_settleVote ..)
    · exact (inner_setJob s _).trans (inner_setSlot ..)
  split
  · exact hc
  · exact hc
  · exact hv
  · exact hv

theorem inner_endSlotWrite (k : SlotId) (w : SlotWork) (j : Job) (p : PlaneId) (e : OpEnd) (s : State) :
    Inner s (endSlotWrite k w j p e s).1 := by
  unfold endSlotWrite
  dsimp only
  split
  · exact (inner_setSlot ..).trans (inner_finishLine ..)
  · exact inner_setSlot ..

theorem inner_leaveSyncing (complete : Bool) (s : State) (p : PlaneId) : Inner s (leaveSyncing complete s p) := by
  unfold leaveSyncing
  dsimp only
  split <;> exact inner_setPlane ..

theorem inner_storeCompletion (c : CompletionRec) (s : State) : Inner s (storeCompletion c s) := by
  unfold storeCompletion
  split <;> rfl

theorem inner_foldl {α : Type} (f : State → α → State) (hf : ∀ s a, Inner s (f s a)) (l : List α) (s : State) :
    Inner s (l.foldl f s) := by
  induction l generalizing s with
  | nil => exact .refl s
  | cons a l ih => exact (hf s a).trans (ih (f s a))

theorem inner_endJob (j : Job) (o : JobOutcome) (s : State) : Inner s (endJob j o s) := by
  unfold endJob
  dsimp only
  exact ((inner_foldl _ (inner_leaveSyncing _) _ s).trans (inner_setJob ..)).trans (inner_storeCompletion ..)

theorem inner_completeJob (s : State) : Inner s (completeJob s) := by
  unfold completeJob
  split
  · split
    · exact inner_endJob ..
    · exact .refl s
  · exact .refl s

theorem inner_endAbort (s : State) : Inner s (endAbort s) := by
  unfold endAbort
  split
  · split
    · split
      · exact inner_endJob ..
      · exact .refl s
    · exact .refl s
  · exact .refl s

/-! ## Acts -/

/-- One inner act writes none of the fields `Inner` names. -/
theorem inner_perform (a : Act) (s : State) : Inner s (perform a s).1 := by
  cases a with
  | deliver op p e =>
    show Inner s (deliverEnd op p e s).1
    unfold deliverEnd
    split
    · split
      · split
        · exact inner_endWrite ..
        · exact inner_endRead ..
        · exact inner_endRepair ..
        · exact .refl s
      · exact .refl s
    · split
      · split
        · exact inner_endSlotRead ..
        · exact inner_endSlotWrite ..
      · exact .refl s
  | start pos =>
    show Inner s (startWork pos s).1
    unfold startWork
    split
    · split
      · split
        · exact inner_startWrite ..
        · exact inner_startRead ..
        · exact .refl s
      · exact .refl s
    · exact inner_startSlot ..
  | release pos =>
    show Inner s (releaseLine pos s).1
    unfold releaseLine freePosition
    dsimp only
    split <;> rfl
  | place pos kind line => rfl
  | placeHeld t =>
    show Inner s (placeHeldBack t s).1
    unfold placeHeldBack
    split
    · exact inner_setPosition ..
    · exact .refl s
  | sweepPlace =>
    show Inner s (placeNext s).1
    unfold placeNext
    split
    · split
      · exact (inner_setSlot ..).trans (inner_setJob ..)
      · exact .refl s
    · exact .refl s
  | sweepTest => exact inner_completeJob s

/-- What every act keeps, a run of acts keeps. -/
theorem performAll_keeps (P : State → Prop) (hp : ∀ a s, P s → P (perform a s).1) :
    ∀ n l s, P s → P (performAll n l s).1 := by
  intro n
  induction n with
  | zero =>
    intro l s h
    cases l <;> exact h
  | succ n ih =>
    intro l s h
    cases l with
    | nil => exact h
    | cons a l => exact ih _ _ (hp a s h)

/-- What every act keeps, an event's acts keep. -/
theorem settleActs_keeps (P : State → Prop) (hp : ∀ a s, P s → P (perform a s).1) (acts : List Act) (s : State) (h : P s) :
    P (settleActs acts s) := performAll_keeps P hp _ _ s h

/-- The acts of an event write none of the fields `Inner` names. -/
theorem inner_settleActs (acts : List Act) (s : State) : Inner s (settleActs acts s) :=
  settleActs_keeps (Inner s) (fun a _ h => h.trans (inner_perform a _)) acts s (.refl s)

/-! ## The end of an event -/

/-- No end of an abort is due: the test for it changes nothing. -/
theorem endAbort_eq (s : State)
    (h : ∀ j ∈ s.sweep.job, s.sweep.engine = .aborting → noSlotInFlight s = false ∨ targetsDrained s j = false) :
    endAbort s = s := by
  unfold endAbort
  split
  · next j he hj =>
    split
    · rw [if_neg]
      rintro ⟨a, b⟩
      rcases h j (by simp [hj]) he with h | h
      · rw [h] at a; cases a
      · rw [h] at b; cases b
    · rfl
  · rfl

/-- No drain of a DETACHING plane is due: the test for it changes nothing. -/
theorem drainPlane_eq (s : State) (p : PlaneId) (h : (s.plane p).state = .detaching → (s.port p).isEmpty = false) :
    drainPlane s p = s := by
  unfold drainPlane
  rw [if_neg]
  rintro ⟨a, b⟩
  rw [h a] at b; cases b

/-- Where nothing is due, the end of an event changes nothing. -/
theorem endOfEvent_eq (s : State)
    (ha : ∀ j ∈ s.sweep.job, s.sweep.engine = .aborting → noSlotInFlight s = false ∨ targetsDrained s j = false)
    (hd : ∀ p, (s.plane p).state = .detaching → (s.port p).isEmpty = false) : endOfEvent s = s := by
  unfold endOfEvent
  rw [endAbort_eq s ha]
  simp only [allPlanes, List.foldl_cons, List.foldl_nil, fun p => drainPlane_eq s p (hd p)]

/-! ## Failures and responses -/

/-- A failure keeps what its parts keep: the first steps, every act, the record and the alert causes, and the results it posts. -/
theorem failPlane_keeps (P : State → Prop) (p : PlaneId) (c : FailCause) (hp : ∀ a s, P s → P (perform a s).1)
    (hr : ∀ b s, P s → P (postRecord b s)) (hs : ∀ c s, P s → P (setSticky c s))
    (hh : ∀ s, P s → P { s with service := .halted }) (hm : ∀ s, P s → P (postResult .planeFailed [] s)) (s : State)
    (h1 : P (failFirst p c s)) (h : P s) : P (failPlane p c s) := by
  unfold failPlane
  dsimp only
  split
  · unfold failDetach haltService
    have h3 := hs causePlaneFailed _ (hr (failureRecord p c) _
      (settleActs_keeps P hp ((s.port p).allOps.map fun op => Act.deliver op p .lost) _ h1))
    split
    · split
      · exact hm _ (hs _ _ (hh _ h3))
      · exact hm _ h3
    · split
      · exact hs _ _ (hh _ h3)
      · exact h3
  · exact h

/-- A plane that is not in service does not fail (R7). -/
theorem failPlane_out_of_service (p : PlaneId) (c : FailCause) (s : State) (h : (s.plane p).state.inService = false) :
    failPlane p c s = s := by simp [failPlane, h]

/-- A response set aside changes nothing. -/
theorem takeResponse_setAside (p : PlaneId) (slot : BitVec 4) (gen : BitVec 3) (isRead : Bool) (e : Option OpEnd) (s : State)
    (h : setAside s p gen = true) : takeResponse p slot gen isRead e s = s := by simp [takeResponse, h]

/-- A response that matches the oldest op ends it. -/
theorem matchResponse_matched (p : PlaneId) (isRead : Bool) (e : OpEnd) (q : QueuedOp) (qs : List QueuedOp) (s : State)
    (hq : (s.port p).queue = q :: qs) (hr : (q.op.body == .read) = isRead) :
    matchResponse p q.slot isRead (some e) s =
      arbitrate p (afterEnd p e (settleActs [.deliver q.op p e] (s.setPort p { s.port p with queue := qs }))) := by
  simp [matchResponse, hq, hr]

/-! ## Expiries -/

/-- A plane is overdue where it is in service and its oldest op was issued longer ago than the plane timeout (R138). -/
theorem overdue_iff (s : State) (p : PlaneId) : overdue s p = true ↔ (s.plane p).state.inService = true ∧
    ∃ q qs, (s.port p).queue = q :: qs ∧ q.issuedAt + s.planeTimeout < s.now := by
  unfold overdue dueAt
  cases h : (s.plane p).state.inService <;> cases h' : (s.port p).queue <;> simp

/-- No expiry is taken where none has come due. -/
theorem expireOverdue_eq (s : State) (p : PlaneId) (h : overdue s p = false) : expireOverdue s p = s := by
  simp [expireOverdue, h]

/-- A plane timeout that is not lowered brings no expiry. -/
theorem expireLowered_of_le (old : Nat) (s : State) (h : old ≤ s.planeTimeout) : expireLowered old s = s := by
  simp [expireLowered, Nat.not_lt.mpr h]

/-- A plane with an empty queue has no expiry (R140). -/
theorem expire_empty (s : State) (p : PlaneId) (h : (s.port p).queue = []) : expire p s = s := by
  simp [expire, dueAt, h]

/-- A response of a plane in service under the port's generation that leaves no expiry due is matched, and its event ends. -/
theorem takeResponse_taken (p : PlaneId) (slot : BitVec 4) (isRead : Bool) (e : Option OpEnd) (s : State)
    (hs : (s.plane p).state.inService = true)
    (ho : overdue (endOfEvent (matchResponse p slot isRead e s)) p = false) :
    takeResponse p slot (s.port p).gen isRead e s = endOfEvent (matchResponse p slot isRead e s) := by
  simp [takeResponse, setAside, hs, expireOverdue_eq _ _ ho]

end Sys2Proof.Machine
end

