-- ==== Sys2Proof/Laws/Frames.lean ====
section
/-! SUPPORT. What a frame of the management port does: one lemma for each way a frame is taken. -/

namespace Sys2Proof.Machine

/-- The state in which a command that passes check 1 of R170 runs. -/
def opened (n : Nat) (s : State) : State := framed n [] s

/-! ### MISO (R166) -/

/-- MISO is driven exactly while a frame is in progress and PRST# is high. -/
theorem misoDriven_iff (s : State) : misoDriven s = true ↔ s.mgmt.frame ≠ none ∧ s.pins.inReset = false := by
  simp [misoDriven, csLow, Option.isSome_iff_ne_none]

@[simp] theorem misoDriven_setFrame_none (s : State) : misoDriven (s.setFrame none) = false := rfl

@[simp] theorem misoDriven_setFrame_some (s : State) (f : OpenFrame) :
    misoDriven (s.setFrame (some f)) = !s.pins.inReset := by
  simp [misoDriven, csLow, State.setFrame]

@[simp] theorem misoDriven_framed (n : Nat) (content : List Byte) (s : State) : misoDriven (framed n content s) = false := rfl

@[simp] theorem misoDriven_answered (n : Nat) (code : ResultCode) (payload : List Byte) (s : State) :
    misoDriven (answered n code payload s) = false := rfl

/-! ### Results -/

/-- A result posted in an opened frame is an answered frame. -/
@[simp] theorem postResult_opened (n : Nat) (c : ResultCode) (l : List Byte) (s : State) :
    postResult c l (opened n s) = answered n c l s := rfl

@[simp] theorem refuse_opened (n : Nat) (c : ResultCode) (s : State) : refuse c (opened n s) = answered n c [] s := rfl

/-- Where a frame's events are taken, its start has been taken with the first MISO byte and the latch as they stand. -/
theorem startedFrame_taken (s : State) (h : FrameTaken s) : startedFrame s = .taken (firstByte s) (latchNow s) := by
  obtain ⟨h1, h2⟩ := h
  unfold startedFrame firstByte latchNow
  rw [if_neg (by simp [h1])]
  match hf : s.mgmt.frame, h2 with
  | none, _ => rfl
  | some (.taken b l), _ => rfl
  | some .ignored, h2 => exact absurd rfl h2

/-- A frame is ignored while PRST# is low, and to its end where its start was ignored. -/
theorem startedFrame_ignored (s : State) (h : s.pins.inReset = true ∨ s.mgmt.frame = some .ignored) :
    startedFrame s = .ignored := by
  unfold startedFrame
  rcases h with h | h
  · rw [if_pos h]
  · split
    · rfl
    · rw [h]; rfl

/-- An ignored frame changes nothing but whether a frame is in progress. -/
theorem takeFrame_ignored (n : Nat) (stillOpen : Bool) (type : FrameType) (s : State)
    (h : s.pins.inReset = true ∨ s.mgmt.frame = some .ignored) :
    takeFrame n stillOpen type s = s.quiet.setFrame (if stillOpen then some .ignored else none) := by
  unfold takeFrame
  rw [startedFrame_ignored s h]

/-- A frame that stays open captures the status byte at its start and takes its type byte's latch; it has no other effect. -/
theorem takeFrame_open (n : Nat) (type : FrameType) (s : State) (h : FrameTaken s) :
    takeFrame n true type s =
      s.quiet.setFrame (some (.taken (firstByte s) (if n = 0 then latchNow s else type.latch s (latchNow s)))) := by
  unfold takeFrame
  rw [startedFrame_taken s h]
  rfl

/-- A frame of at least one byte that is taken and ends has its effect on the state with its MISO bytes shifted out. -/
theorem takeFrame_ended (n : Nat) (type : FrameType) (s : State) (h : FrameTaken s) (hn : n ≠ 0) :
    takeFrame n false type s =
      type.effect (type.latch s (latchNow s)) (framed n (type.content (type.latch s (latchNow s))) s) := by
  unfold takeFrame
  rw [startedFrame_taken s h]
  simp only [if_neg hn]
  rfl

/-- A COMMAND frame is checked on the state with its MISO bytes shifted out. -/
theorem takeCommand_eq (n : Nat) (right : Bool) (body : State → State) (s : State) (h : FrameTaken s) (hn : n ≠ 0) :
    takeCommand n right body s =
      if s.mgmt.busy = true ∨ s.mgmt.result.isSome = true then
        { opened n s with mgmt := { s.mgmt with frame := none, assembly := [], rejected := true } }
      else if right then body (opened n s) else postResult .badLength [] (opened n s) := by
  unfold takeCommand
  rw [takeFrame_ended _ _ _ h hn]
  rfl

/-- A COMMAND frame that passes check 1 of R170 runs its command, or is answered BAD_LENGTH. -/
theorem takeCommand_ready (n : Nat) (right : Bool) (body : State → State) (s : State) (h : CommandReady s) (hn : n ≠ 0) :
    takeCommand n right body s = if right then body (opened n s) else answered n .badLength [] s := by
  obtain ⟨h1, h2, h3⟩ := h
  rw [takeCommand_eq _ _ _ _ h1 hn, if_neg (by simp [h2, h3])]
  rfl

/-- A command with its own number of parameter bytes runs. -/
theorem runCommand_ready (len : Nat) (params : List Byte) (body : State → State) (s : State) (h : CommandReady s)
    (hl : params.length = len) : runCommand len params body s = .next (body (opened (params.length + 2) s)) := by
  rw [runCommand, takeCommand_ready _ _ _ _ h (by omega), if_pos (by simp [hl])]

/-- A POLICY_SET with two value bytes runs on their number. -/
theorem runPolicySet_ready (b1 b0 : Byte) (body : Nat → State → State) (s : State) (h : CommandReady s) :
    runPolicySet [b1, b0] body s = .next (body (number2 b1 b0) (opened 5 s)) := by
  rw [runPolicySet, takeCommand_ready _ _ _ _ h (by simp)]
  rfl

/-- A COMMAND frame during COMMAND_BUSY or RESULT_READY is discarded. -/
theorem takeCommand_discards (n : Nat) (right : Bool) (body : State → State) (s : State) (hr : FrameTaken s)
    (hn : n ≠ 0) (h : s.mgmt.busy = true ∨ s.mgmt.result ≠ none) :
    takeCommand n right body s =
      { framed n [] s with mgmt := { s.mgmt with frame := none, assembly := [], rejected := true } } := by
  rw [takeCommand_eq _ _ _ _ hr hn, if_pos (by rcases h with h | h <;> simp [h, Option.isSome_iff_ne_none])]
  rfl

/-! ## Fields an opened frame leaves -/

@[simp] theorem opened_pending (n : Nat) (s : State) : (opened n s).pending = s.pending := rfl
@[simp] theorem opened_pins (n : Nat) (s : State) : (opened n s).pins = s.pins := rfl
@[simp] theorem opened_now (n : Nat) (s : State) : (opened n s).now = s.now := rfl
@[simp] theorem opened_planes (n : Nat) (s : State) : (opened n s).planes = s.planes := rfl
@[simp] theorem opened_service (n : Nat) (s : State) : (opened n s).service = s.service := rfl
@[simp] theorem opened_geometry (n : Nat) (s : State) : (opened n s).geometry = s.geometry := rfl
@[simp] theorem opened_errorLimit (n : Nat) (s : State) : (opened n s).errorLimit = s.errorLimit := rfl
@[simp] theorem opened_regions (n : Nat) (s : State) : (opened n s).regions = s.regions := rfl
@[simp] theorem opened_defaultAttrs (n : Nat) (s : State) : (opened n s).defaultAttrs = s.defaultAttrs := rfl
@[simp] theorem opened_locks (n : Nat) (s : State) : (opened n s).locks = s.locks := rfl
@[simp] theorem opened_positions (n : Nat) (s : State) : (opened n s).positions = s.positions := rfl
@[simp] theorem opened_tags (n : Nat) (s : State) : (opened n s).tags = s.tags := rfl
@[simp] theorem opened_responses (n : Nat) (s : State) : (opened n s).responses = s.responses := rfl
@[simp] theorem opened_protoErr (n : Nat) (s : State) : (opened n s).protoErr = s.protoErr := rfl
@[simp] theorem opened_requestAssembly (n : Nat) (s : State) : (opened n s).requestAssembly = s.requestAssembly := rfl
@[simp] theorem opened_rotation (n : Nat) (s : State) : (opened n s).rotation = s.rotation := rfl
@[simp] theorem opened_ports (n : Nat) (s : State) : (opened n s).ports = s.ports := rfl
@[simp] theorem opened_planeTimeout (n : Nat) (s : State) : (opened n s).planeTimeout = s.planeTimeout := rfl
@[simp] theorem opened_sweepShare (n : Nat) (s : State) : (opened n s).sweepShare = s.sweepShare := rfl
@[simp] theorem opened_sweep (n : Nat) (s : State) : (opened n s).sweep = s.sweep := rfl
@[simp] theorem opened_log (n : Nat) (s : State) : (opened n s).log = s.log := rfl
@[simp] theorem opened_suspects (n : Nat) (s : State) : (opened n s).suspects = s.suspects := rfl
@[simp] theorem opened_sticky (n : Nat) (s : State) : (opened n s).sticky = s.sticky := rfl
@[simp] theorem opened_alertMask (n : Nat) (s : State) : (opened n s).alertMask = s.alertMask := rfl
@[simp] theorem opened_mgmt (n : Nat) (s : State) : (opened n s).mgmt = { s.mgmt with frame := none, assembly := [] } := rfl
@[simp] theorem opened_out (n : Nat) (s : State) : (opened n s).out = (framed n [] s).out := rfl
@[simp] theorem opened_plane (n : Nat) (s : State) (q : PlaneId) : (opened n s).plane q = s.plane q := rfl
@[simp] theorem opened_port (n : Nat) (s : State) (q : PlaneId) : (opened n s).port q = s.port q := rfl
@[simp] theorem opened_tag (n : Nat) (s : State) (u : Tag) : (opened n s).tag u = s.tag u := rfl
@[simp] theorem opened_position (n : Nat) (s : State) (u : Tag) : (opened n s).position u = s.position u := rfl
@[simp] theorem opened_slot (n : Nat) (s : State) (m : SlotId) : (opened n s).slot m = s.slot m := rfl

end Sys2Proof.Machine
end

