-- ==== Sys2Proof/Laws/Locks.lean ====
section
/-! SUPPORT. What the lock table's operations do to its lines: an entry for a line at most, kept by each of them. -/

namespace Sys2Proof.Machine

/-- An entry that grants keeps its line. -/
theorem LockEntry.advance_line (e x : LockEntry) (h : e.advance.1 = some x) : x.line = e.line := by
  unfold LockEntry.advance at h
  split at h
  · split at h
    · cases h
    · split at h <;> (cases h; rfl)
  · cases h; rfl

/-- A placed claim leaves the lines of the table, or adds its own where the line had no entry. -/
theorem lockPlace_lines (c : Claim) (line : Nat) (l : List LockEntry) :
    (lockPlace c line l).1.map LockEntry.line =
      if line ∈ l.map LockEntry.line then l.map LockEntry.line else l.map LockEntry.line ++ [line] := by
  induction l with
  | nil => simp [lockPlace]
  | cons e es ih =>
    unfold lockPlace
    by_cases h : e.line = line
    · have ha : (e.arrive c).line = e.line := by unfold LockEntry.arrive; split <;> rfl
      simp [h, ha]
    · simp only [h, if_false, List.map_cons, ih, List.mem_cons]
      by_cases hm : line ∈ es.map LockEntry.line
      · simp [hm]
      · simp [hm, Ne.symm h]

/-- A placed claim is granted at once where its line had no entry, or where it joins its readers. -/
theorem lockPlace_granted (c : Claim) (line : Nat) (l : List LockEntry) :
    (lockPlace c line l).2 = true ↔ lockOf l line = none ∨ ∃ e, lockOf l line = some e ∧ joinsReaders e c = true := by
  induction l with
  | nil => simp [lockPlace, lockOf]
  | cons e es ih =>
    unfold lockPlace
    by_cases h : e.line = line
    · simp [h, lockOf]
    · have hl : lockOf (e :: es) line = lockOf es line := by simp [lockOf, h]
      simp only [h, if_false, hl]
      exact ih

/-- A release takes at most its own entry off the table. -/
theorem lockRelease_lines (pos : Claimant) (l : List LockEntry) :
    ((lockRelease pos l).1.map LockEntry.line).Sublist (l.map LockEntry.line) := by
  induction l with
  | nil => exact List.Sublist.refl _
  | cons e es ih =>
    unfold lockRelease
    split
    · dsimp only
      cases ha : (LockEntry.advance { e with holders := e.holders.erase pos }).1 with
      | none => exact List.sublist_cons_self ..
      | some x => simp [LockEntry.advance_line _ _ ha]
    · exact ih.cons_cons _

/-- A grant takes at most its own entry off the table. -/
theorem lockGrant_lines (line : Nat) (l : List LockEntry) :
    ((lockGrant line l).1.map LockEntry.line).Sublist (l.map LockEntry.line) := by
  induction l with
  | nil => exact List.Sublist.refl _
  | cons e es ih =>
    unfold lockGrant
    split
    · dsimp only
      cases ha : e.advance.1 with
      | none => exact List.sublist_cons_self ..
      | some x => simp [LockEntry.advance_line _ _ ha]
    · exact ih.cons_cons _

/-- A host channel reset only takes entries off the table. -/
theorem lockCutOff_lines (released : Claimant → Bool) (l : List LockEntry) :
    ((lockCutOff released l).1.map LockEntry.line).Sublist (l.map LockEntry.line) := by
  induction l with
  | nil => exact List.Sublist.refl _
  | cons e es ih =>
    simp only [lockCutOff, List.map_cons, List.filterMap_cons] at *
    cases ha : (e.cutOff released).1 with
    | none => exact ih.cons _
    | some x =>
      have hx : x.line = e.line := by
        have h := LockEntry.advance_line
          { e with holders := e.holders.filter fun h => !released h, waiting := e.waiting.filter Claim.isSweep } x
        exact h ha
      simp only [List.map_cons, hx]
      exact ih.cons_cons _

end Sys2Proof.Machine
end

