-- ==== Sys2Proof/Machine/Wire.lean ====
section
/-! DEFINITION. What the part drives on its outputs: the response it offers the host (R152, R161, R164), the transfers of a
response and of an op message (R184, R186), and the pins ALERT# and request ready. -/

namespace Sys2Proof.Machine

/-- The response offered on the response path: the head of the queue, and nothing while HRST# or PRST# is low (R161, R164). -/
def responseOffered (s : State) : Option Response := if requestReady s then s.responses.head? else none

/-- The transfers of a response message (R184): a header, and four data transfers for a READ. -/
def responseTransfers (x : Response) : List Transfer :=
  headerTransfer x.kind.code (tagByte x.tag) x.status.code 0 ::
    match x.kind with
    | .read => transfersOfLine x.data
    | .write => []

/-- The transfers of an op message (R186): a header, and for a WRITE its mask and its data. -/
def opTransfers (q : QueuedOp) : List Transfer :=
  headerTransfer q.op.body.code (slotByte q.slot q.gen) 0 (BitVec.ofNat 32 q.op.line) ::
    match q.op.body with
    | .read => []
    | .write mask data => maskTransfer mask :: transfersOfLine data

/-- The transfers sent on a plane's op path by the present command, in order (R134). -/
def sentTransfers (s : State) (p : PlaneId) : List Transfer :=
  (s.out.ops.filter fun x => x.1 == p).flatMap fun x => opTransfers x.2

end Sys2Proof.Machine
end

