-- ==== Sys2Proof/Tests/Slice0.lean ====
section
/-! SUPPORT. The model's own tests: what `WellFormed` refuses, words written out from chapter 11, single steps whose results the
manual's rules and worked examples give, and for each statement with hypotheses a state and operands that meet them. -/

namespace Sys2Proof.Tests

set_option Elab.async false

open Sys2Proof.Machine

/-! ## States -/

/-- Every link UP, no plane in service. -/
def linked : State :=
  { State.reset with
    planes := Vector.replicate 4 { state := .offline, link := .up, errorCount := 0, cause := none }
    pins := { inReset := false, hrstLow := false, lrdy := Vector.replicate 4 true } }

/-- A plane in a state, with its link UP. -/
def inState (x : PlaneState) (s : State) (p : PlaneId) : State := s.setPlane p { s.plane p with state := x }

/-- These planes ONLINE, service SERVING. -/
def serving (l : List PlaneId) : State := { l.foldl (inState .online) linked with service := .serving }

/-- An op in a plane's queue. -/
def withOp (p : PlaneId) (op : Op) (s : State) : State := s.setPort p ((s.port p).withIssued s.now op)

/-- A lock entry. -/
def withLock (line : Nat) (kind : ClaimKind) (holder : Claimant) (waiting : List Claim) (s : State) : State :=
  { s with locks := s.locks ++ [{ line := line, kind := some kind, holders := [holder], waiting := waiting }] }

/-- Attributes of the default entry. -/
def withAttrs (a : Attrs) (s : State) : State := { s with defaultAttrs := a }

/-- A request of tag 4 of line 7 with its work. -/
def request (kind : ReqKind) (work : Work) : Request :=
  { kind := kind, line := 7, copied := some { index := 8, attrs := resetAttrs }, work := some work }

/-- Tag 4 reads line 7 from P1. -/
def readingWork : ReadRec := { readSet := 2, tried := 2, outstanding := 2 }

/-- The read of `readingWork`, its op in the queue of P1. -/
def reading : State :=
  withLock 7 .hostRead (.host 4) [] <| withOp 1 { owner := .host 4, line := 7, body := .read } <|
    (serving [1]).setTag 4 (.inWork (request .read (.read readingWork)))

/-- Tag 4 writes line 7 to P1, to P1 and P2 where `both`. -/
def writingWork (both : Bool) : WriteRec :=
  { mask := fullMask, data := 5, writeSet := if both then 6 else 2, outstanding := if both then 6 else 2 }

/-- The write of `writingWork`, its op in the queue of P1. -/
def writing (both : Bool) : State :=
  withLock 7 .hostWrite (.host 4) [] <| withOp 1 { owner := .host 4, line := 7, body := .write fullMask 5 } <|
    (serving [1, 2]).setTag 4 (.inWork (request .write (.write (writingWork both))))

/-- A job. -/
def job (kind : JobKind) (cursor last : Nat) (targets : PlaneSet) (outcome : Option JobOutcome) : Job :=
  { id := 3, kind := kind, first := 0, last := last, targets := targets, window := 2, pattern := 0, cursor := cursor,
    linesDone := 0, mismatches := 0, errors := 0, outcome := outcome }

/-- The engine in a state with a job. -/
def withJob (e : EngineState) (j : Job) (s : State) : State := { s with sweep := { s.sweep with engine := e, job := some j } }

/-- A completion record. -/
def completion : CompletionRec := ⟨3, .verify, .complete, 8, 0, 0, 8⟩

/-- `n` completion records. -/
def withCompletions (n : Nat) (s : State) : State :=
  { s with sweep := { s.sweep with completions := List.replicate n completion } }

/-- `n` suspect entries, of lines 0 to n-1. -/
def withSuspects (n : Nat) (s : State) : State :=
  { s with suspects := (List.range n).map fun i => { line := i, reason := .noGoodCopy, planes := 1 } }

/-- A divergence record body. -/
def body (kind : RecKind) : RecBody := { kind := kind, origin := .sweep 3, line := some 7, planes := 1, outcome := .lost }

/-- `n` records in the log. -/
def withRecords (n : Nat) (s : State) : State :=
  { s with log := { s.log with records := List.replicate n { seq := 0x01F4, body := body .mismatch, repeats := 1 } } }

/-- The state after one command, or the same state where it is refused. -/
def after (s : State) (i : Instr) : State :=
  match exec i s with
  | .next t => t
  | _ => s

/-- A frame is in progress. -/
def withFrame (f : OpenFrame) (s : State) : State := { s with mgmt := { s.mgmt with frame := some f } }

/-- The code of the result a state holds. -/
def resultCode (s : State) : Option ResultCode := s.mgmt.result.map Result.code

/-! ## Ill-formed terms -/

theorem test_wf_unknownKindDiscard : WellFormed (.unknownKindDiscard 0x01 0) = false := by decide
theorem test_wf_unknownKindResponse : WellFormed (.unknownKindResponse 0 0 0 0x02 0) = false := by decide
theorem test_wf_readResponse : WellFormed (.readResponse 0 0 0 0x01 1) = false := by decide +kernel
theorem test_wf_resultFrame : WellFormed (.resultFrame (.ended 0)) = false := by decide
theorem test_wf_completionFrame : WellFormed (.completionFrame (.ended 0)) = false := by decide
theorem test_wf_frameRejected_type : WellFormed (.frameRejected 0x04 1) = false := by decide
theorem test_wf_frameRejected_empty : WellFormed (.frameRejected 0x05 0) = false := by decide
theorem test_wf_unknownCommand_code : WellFormed (.unknownCommand (.ended [0x61])) = false := by decide
theorem test_wf_unknownCommand_selector : WellFormed (.unknownCommand (.ended [0x30, 5])) = false := by decide

/-! ## The wire (chapter 11) -/

/-- R184, R185: tag 7, line 0x328. -/
theorem test_decode_read : decodeRequest [0x0000032800002701#128] = some (.read 7 808, []) := by decide
/-- R186, R187: slot 10, generation 5. -/
theorem test_decode_writeResponse : decodeResponse 2 [0x005A02#128] = some (.writeResponse 2 10 5 0x00, []) := by decide
/-- R188: a RESULT frame of three bytes. -/
theorem test_decode_resultFrame : decodeFrame [0x03, 0, 0] = some (.resultFrame (.ended 3)) := by decide
/-- R189: PLANE_DETACH of P2. -/
theorem test_decode_planeDetach : decodeFrame [0x02, 0x14, 0x02] = some (.planeDetach [0x02]) := by decide
/-- R184: a response of status POISON for tag 9 of a WRITE would carry no data. -/
theorem test_response_transfers :
    responseTransfers { kind := .write, tag := 9, status := .poison, data := 0 } = [0x00020902#128] := by decide
/-- R186: a READ op of line 0x328 in slot 10, generation 5. -/
theorem test_op_transfers :
    opTransfers { op := { owner := .slot 0, line := 808, body := .read }, slot := 10, gen := 5, issuedAt := 0 } =
      [0x0000032800005A01#128] := by decide

/-! ## Single steps -/

/-- R11: the first plane is adopted. -/
theorem test_adopt : ((after linked (.planeAdopt [2])).plane 2).state = .online := by decide
/-- R12: the last ONLINE plane is not detached. -/
theorem test_detach_last : resultCode (after (serving [1]) (.planeDetach [1])) = some .lastCopy := by decide
/-- R19: no service without an ONLINE plane. -/
theorem test_service_no_source : resultCode (after linked (.serviceSet [1])) = some .noSource := by decide
/-- R69: the first ROTATE read after reset asks P0, whose pointer stood at P3. -/
theorem test_rotate_first : (after (serving [0, 1]) (.read 4 7)).rotation = 0 := by decide
/-- R53, R70: the write's ops stand in the queues of both ONLINE planes. -/
theorem test_write_issues :
    let t := after (serving [1, 2]) (.write 4 7 fullMask (.whole 5))
    allPlanes.map (fun p => (t.port p).queue.length) = [0, 1, 1, 0] := by decide
/-- R71: the copy is answered OK, and R25 removes the lock entry. -/
theorem test_read_served :
    let t := after reading (.readResponse 1 0 0 0x00 9)
    t.responses = [{ kind := .read, tag := 4, status := .ok, data := 9 }] ∧ t.locks = [] := by decide +kernel
/-- R74, R81, R83: a lone plane's DATA_ERROR poisons the read and adds the suspect entry. -/
theorem test_read_poisoned :
    let t := after reading (.readResponse 1 0 0 0x01 0)
    t.responses.map Response.status = [.poison] ∧ t.suspects = [{ line := 7, reason := .noGoodCopy, planes := 2 }] := by
  decide
/-- R57: under ALL the write waits for its second plane. -/
theorem test_write_waits : (after (writing true) (.writeResponse 1 0 0 0x00)).responses = [] := by decide
/-- R55, R5, R6: a WRITE_ERROR posts WRITE_LOST before PLANE_FAILED. -/
theorem test_write_error_records :
    (after (writing true) (.writeResponse 1 0 0 0x02)).log.records.map (fun d => d.body.kind) =
      [.writeLost, .planeFailed] := by decide
/-- R6, R18: the failure of the last ONLINE plane halts service. -/
theorem test_service_lost : (after reading (.lrdyFalling 1)).service = .halted := by decide
/-- R135: a response of another generation is set aside. -/
theorem test_generation : ((after reading (.readResponse 1 0 3 0x00 9)).port 1).queue.length = 1 := by decide
/-- R137: a response of another slot fails the plane. -/
theorem test_slot : ((after reading (.readResponse 1 1 0 0x00 9)).plane 1).cause = some .linkFault := by decide
/-- R90: the first claims of a job fill its window. -/
theorem test_sweep_window :
    let t := after (serving [1]) (.sweepStart [3, 0, 0, 0, 0, 0, 0, 0, 9, 0, 2, 0])
    slotsInFlight t = [0, 1] ∧ t.sweep.job.map Job.cursor = some 2 := by decide
/-- R15, R109: the end of a rebuild puts its target ONLINE. -/
theorem test_rebuild_end :
    ((after (inState .syncing (withJob .running (job .rebuild 5 4 4 none) (serving [1])) 2) .jobComplete).plane 2).state =
      .online := by decide
/-- R157: a second request of a live tag is discarded. -/
theorem test_live_tag : (after reading (.write 4 9 0 (.whole 0))).protoErr = some { tag := 4, kind := 0x02 } := by decide
/-- R163, R33: the holder becomes an orphan and keeps its line. -/
theorem test_host_reset :
    let t := after reading .hostChannelReset
    t.tag 4 = .free ∧ holdsLine t (.host 4) = true ∧ holderMark t 4 = .orphan := by decide +kernel
/-- R117: a second record of a kind, origin and line merges. -/
theorem test_merge :
    (postRecord (body .mismatch) (postRecord (body .mismatch) linked)).log.records.map DivRec.repeats = [2] := by decide
/-- R188: status byte and POLICY_GET of the plane timeout. -/
theorem test_result_frame :
    (after (after linked (.policyGet [1])) (.resultFrame (.ended 6))).out.miso =
      [0x02, 0x00, 0x03, 0x01, 0x00, 0x40] := by decide
/-- R138: the timer of the oldest op, 64 microseconds old, has not expired. -/
theorem test_not_overdue : overdue { reading with now := 64 } 1 = false := by decide
/-- R138: and at 65 it has. -/
theorem test_overdue : overdue { reading with now := 65 } 1 = true := by decide
/-- R139: the next oldest op, older than the timeout, fails the plane right after the end. -/
theorem test_overdue_next :
    let s := { withOp 1 { owner := .host 5, line := 8, body := .read } reading with now := 65 }
    ((after s (.readResponse 1 0 0 0x00 9)).plane 1).cause = some .timeout := by decide +kernel
/-- R141: so does a lowered timeout, at once. -/
theorem test_timeout_lowered :
    ((after { reading with now := 3 } (.policySetPlaneTimeout [0, 2])).plane 1).cause = some .timeout := by decide +kernel
/-- R152, R158: a WRITE whose data are not all there is held and has no effect; with its last transfer it is accepted. -/
theorem test_write_partly :
    let s := after (serving [1]) (.write 4 7 fullMask (.partly 2 5))
    (s.requestAssembly.length = 3 ∧ s.tag 4 = .free) ∧
      (after s (.write 4 7 fullMask (.whole 5))).requestAssembly = [] ∧
      ((after s (.write 4 7 fullMask (.whole 5))).tag 4).isLive = true := by decide +kernel
/-- R163: HRST# falling discards the transfers held. -/
theorem test_reset_discards_transfers :
    (after (after (serving [1]) (.write 4 7 fullMask (.partly 2 5))) .hostChannelReset).requestAssembly = [] := by decide +kernel
/-- R175: the value already held changes nothing observable, an expiry that is due not being taken with it. -/
theorem test_timeout_held :
    let t := after { reading with now := 70 } (.policySetPlaneTimeout [0, 64])
    (t.plane 1).state = .online ∧ t.planeTimeout = 64 ∧ resultCode t = some .done := by decide +kernel
/-- R166: MISO is driven while CS# is low, and high-impedance while PRST# is low or CS# high. -/
theorem test_miso_driven :
    let s := after linked (.statusFrame (.stillOpen 0))
    [linked, s, after s .powerOnReset, after (after s .powerOnReset) .powerOnResetEnd, after s (.statusFrame (.ended 2))].map
      misoDriven = [false, true, false, true, false] := by decide +kernel
/-- R166, R168: the status byte shown is that of the frame's start. -/
theorem test_status_captured :
    let s := after (after linked (.statusFrame (.stillOpen 1))) (.unknownKindDiscard 0x09 4)
    (after s (.statusFrame (.ended 2))).out.miso = [0x00, 0x00] := by decide +kernel
/-- R172: a RESULT frame that latched NONE does not remove the result posted since. -/
theorem test_result_posted_later :
    let s := after (postResult .done [] (after linked (.resultFrame (.stillOpen 1)))) (.resultFrame (.ended 5))
    s.out.miso = [0x00, 0xFF, 0x00, 0x00, 0x00] ∧ resultCode s = some .done := by decide +kernel
/-- R5, R96: the WRITE_ERROR of the last target of a job that is ABORTING fails the plane; the job's end finds no target. -/
theorem test_aborting_write_error :
    let w : SlotWork := { line := 4, writesOut := 4 }
    let op : Op := { owner := .slot 0, line := 4, body := .write fullMask 5 }
    let s := withLock 4 .sweep (.slot 0) [] <| withOp 2 op <| (inState .syncing
      (withJob .aborting (job .rebuild 6 9 4 (some .abortedCommand)) (serving [1])) 2).setSlot 0 (some w)
    let t := after s (.writeResponse 2 0 0 0x02)
    (t.plane 2).cause = some .writeError ∧ t.sweep.engine = .idle := by decide +kernel

/-! ## Witnesses: the hypotheses of each statement can be met together -/


theorem witness_StepRunsFront :
    ({ State.reset with pending := [.sweepClaim, .hrstRising] } : State).pending = .sweepClaim :: [.hrstRising] := by decide

theorem witness_QueueUntouched : ∃ t, exec .hrstRising { linked with pending := [.sweepClaim] } = .next t := ⟨_, rfl⟩

theorem witness_IdleStep :
    (linked.pending = [] ∧ ∀ p, overdue linked p = false) ∧
      { reading with now := 65 }.pending = [] ∧ overdue { reading with now := 65 } 1 = true ∧
        ∀ q : PlaneId, q < 1 → overdue { reading with now := 65 } q = false := by decide

theorem witness_WellFormedRuns :
    WellFormed (.planeDetach [0x02]) = true ∧ namesKind 0x01 = true ∧ namesKind 0x02 = true ∧ namesFrameType 0x01 = true ∧
      namesFrameType 0x04 = true ∧ isUnknownContent [0x01] = false ∧ isUnknownContent [0x30, 5] = false := by decide

theorem witness_FrameRoundTrip :
    WellFormed (.logDrop [0x01, 0xF4]) = true ∧ encodeFrame (.logDrop [0x01, 0xF4]) = some [0x02, 0x52, 0x01, 0xF4] := by decide

theorem witness_MessageRoundTrip :
    (WellFormed (.read 31 0xFFFFFFFF) = true ∧ encodeRequest (.read 31 0xFFFFFFFF) = some [0xFFFFFFFF00001F01#128]) ∧
      (0x00 : Byte) = 0x00 ∧ namesKind 0x00 = false ∧ namesKind 0x03 = false := by decide

theorem witness_DecodedFramesAreCommands : ([0x02] : List Byte) ≠ [] := by decide

/-! ### Sound states -/

/-- A port with every op slot in use holds ops in slot order. -/
theorem witness_StepKeepsPorts :
    (PoliciesInRange (withOp 1 { owner := .host 5, line := 8, body := .read } reading) ∧
      PortsSound (withOp 1 { owner := .host 5, line := 8, body := .read } reading)) ∧
    ∃ t, step { withOp 1 { owner := .host 5, line := 8, body := .read } reading with pending := [.hrstRising] } = .next t :=
  ⟨by decide, _, rfl⟩

theorem witness_StepKeepsLocks :
    LocksSound (withLock 9 .hostWrite (.host 6) [{ pos := .slot 0, kind := .sweep }] reading) ∧
      ∃ t, step { reading with pending := [.hrstRising] } = .next t := ⟨by decide, _, rfl⟩

/-- One tag QUEUED with its response. -/
def answeredState : State :=
  { linked.setTag 4 (.queued (request .read (.read readingWork)) .noPlane) with
    responses := [{ kind := .read, tag := 4, status := .noPlane, data := 0 }] }

theorem answeredState_tag (t : Tag) : answeredState.tag t =
    if t = 4 then .queued (request .read (.read readingWork)) .noPlane else .free := by revert t; decide +kernel

theorem witness_StepKeepsResponses :
    ResponsesMatchTags answeredState ∧ ∃ t, step { answeredState with pending := [.hrstRising] } = .next t := by
  refine ⟨⟨by decide, ?_, ?_⟩, _, rfl⟩
  · intro t
    rw [answeredState_tag]
    by_cases h : t = 4
    · subst h; simp [answeredState]
    · simp [answeredState, h, Ne.symm h]
  · intro x hx r st h
    simp only [answeredState, List.mem_singleton] at hx
    subst hx
    rw [answeredState_tag] at h
    simp only [if_pos, TagEntry.queued.injEq] at h
    obtain ⟨rfl, rfl⟩ := h
    exact ⟨rfl, rfl⟩

theorem witness_StepKeepsSweep :
    SweepSound (withJob .running (job .rebuild 2 9 4 none) linked) ∧
      SweepSound (withJob .aborting (job .rebuild 10 9 4 (some .abortedCommand)) linked) ∧
      ∃ t, step { withJob .running (job .rebuild 2 9 4 none) linked with pending := [.hrstRising] } = .next t :=
  ⟨by decide, by decide, _, rfl⟩

/-- P2 is DETACHING behind a host write. -/
def detaching : State :=
  { withOp 2 { owner := .host 5, line := 8, body := .read } (inState .detaching (serving [1]) 2) with
    mgmt := { busy := true, rejected := false, result := none, assembly := [], frame := none } }

theorem witness_StepKeepsTables :
    ((LogSound { linked with log := { linked.log with records := [{ seq := 6, body := body .mismatch, repeats := 1 }], nextSeq := 7 } } ∧
      SuspectsSound (withSuspects 16 linked)) ∧
      (LogSound (withSuspects 16 linked) ∧ SuspectsSound (withSuspects 16 linked)) ∧
      ∃ t, step { withSuspects 16 linked with pending := [.hrstRising] } = .next t) ∧
    (ServiceBacked detaching ∧ DetachTracked detaching ∧ StickyOnly detaching) ∧
      ∃ t, step { detaching with pending := [.hrstRising] } = .next t :=
  ⟨⟨by decide, by decide, _, rfl⟩, by decide, _, rfl⟩

theorem witness_StepKeepsSound : Sound reading ∧ ∃ t, step { reading with pending := [.hrstRising] } = .next t := by
  have tags : ∀ t : Tag, reading.tag t = if t = 4 then .inWork (request .read (.read readingWork)) else .free := by
    decide +kernel
  refine ⟨⟨by decide, by decide, by decide, by decide, by decide, by decide,
    ⟨by decide, by decide, fun _ _ h => (by cases h), fun _ _ h => (by cases h)⟩,
    by decide, by decide, by decide, by decide, ⟨by decide, ?_, ?_⟩, by decide, by decide, by decide⟩, _, rfl⟩
  · intro t
    rw [tags]
    constructor
    · rintro ⟨x, hx, _⟩
      simp [reading, withLock, withOp, serving, linked, inState, State.reset, State.setPort, State.setTag,
        State.setPlane] at hx
    · rintro ⟨r, st, h⟩
      split at h <;> cases h
  · intro x hx
    simp [reading, withLock, withOp, serving, linked, inState, State.reset, State.setPort, State.setTag,
      State.setPlane] at hx

/-! ### Frames -/

/-- A result waits. -/
def resultHeld : State := postResult .done [7] linked

theorem witness_CommandChecks :
    (WellFormed (.logClear []) = true ∧ encodeFrame (.logClear []) = some (0x02 :: [0x53]) ∧
      (FrameTaken detaching ∧ detaching.mgmt.busy = true) ∧ (FrameTaken resultHeld ∧ resultHeld.mgmt.result ≠ none) ∧
      (FrameTaken (withFrame (.taken 0x42 .nothing) resultHeld) ∧
        (withFrame (.taken 0x42 .nothing) resultHeld).mgmt.result ≠ none)) ∧
    (CommandReady linked ∧ CommandReady (withFrame (.taken 0x42 .nothing) linked)) ∧
      (WellFormed (.planeAdopt []) = true ∧ encodeFrame (.planeAdopt []) = some (0x02 :: 0x13 :: []) ∧
        commandLength 0x13 = some 1 ∧ ([] : List Byte).length ≠ 1) ∧
      (encodeFrame (.policySetAlertMask [1]) = some (0x02 :: 0x30 :: [5, 1]) ∧ commandLength 0x30 = some 3 ∧
        [5, 1].length ≠ 3) ∧
      commandLength 0x00 = none ∧ commandLength 0x62 = none ∧ 5 < (6 : Byte).toNat := by decide

theorem witness_FramesIgnoredOrRejected :
    (WellFormed (.alertQuery []) = true ∧ encodeFrame (.alertQuery []) = some [0x02, 0x60] ∧
      { linked with pins := { linked.pins with inReset := true } }.pins.inReset = true ∧
      (withFrame .ignored linked).mgmt.frame = some .ignored) ∧ linked.pins.inReset = false ∧
    FrameTaken linked ∧ FrameTaken (withFrame (.taken 0x42 .nothing) linked) ∧
      namesFrameType 0x00 = false ∧ namesFrameType 0x05 = false ∧ 0 < 1 := by decide

theorem witness_StatusAndResultFrames :
    0 < 1 ∧ 2 ≤ 2 ∧ FrameTaken linked ∧ latchNow linked = .nothing ∧ linked.mgmt.result = none ∧
      (FrameTaken (withFrame (.taken 0x00 .nothing) linked) ∧ latchNow (withFrame (.taken 0x00 .nothing) linked) = .nothing) ∧
      (FrameTaken (withFrame (.taken 0x00 (.status 0x04)) linked) ∧
        latchNow (withFrame (.taken 0x00 (.status 0x04)) linked) = .status 0x04) ∧
      (FrameTaken (withFrame (.taken 0x00 (.result none)) resultHeld) ∧
        latchNow (withFrame (.taken 0x00 (.result none)) resultHeld) = .result none) ∧
      (FrameTaken (withFrame (.taken 0x02 (.result (some ⟨.done, [7]⟩))) resultHeld) ∧
        latchNow (withFrame (.taken 0x02 (.result (some ⟨.done, [7]⟩))) resultHeld) = .result (some ⟨.done, [7]⟩)) ∧
      FrameTaken resultHeld ∧ latchNow resultHeld = .nothing ∧ resultHeld.mgmt.result = some ⟨.done, [7]⟩ := by decide

/-- Four records in the completion queue and one waiting. -/
def ending : State :=
  let s := withCompletions 4 (withJob .ending (job .verify 8 7 0 (some .complete)) linked)
  { s with sweep := { s.sweep with waiting := some completion } }

theorem witness_CompletionFrames :
    0 < 1 ∧ FrameTaken linked ∧ latchNow linked = .nothing ∧ linked.sweep.completions.head? = none ∧
      (FrameTaken (withFrame (.taken 0x00 (.completion none)) (withCompletions 1 linked)) ∧
        latchNow (withFrame (.taken 0x00 (.completion none)) (withCompletions 1 linked)) = .completion none) ∧
      (latchNow (withFrame (.taken 0x04 (.completion (some completion))) (withCompletions 1 linked)) =
          .completion (some completion) ∧
        (withCompletions 1 linked).sweep.completions = completion :: [] ∧ (withCompletions 1 linked).sweep.engine ≠ .ending) ∧
      2 ≤ 2 ∧ FrameTaken ending ∧ latchNow ending = .nothing ∧ ending.sweep.completions.head? = some completion ∧
      ending.sweep.completions = completion :: List.replicate 3 completion ∧ ending.sweep.engine = .ending ∧
      ending.sweep.waiting = some completion ∧ (List.replicate 3 completion).length < 4 := by decide

/-! ### Commands -/

theorem witness_StatusQueries :
    CommandReady linked ∧ linked.sweep.job = none ∧ CommandReady ending ∧
      ending.sweep.job = some (job .verify 8 7 0 (some .complete)) := by decide

theorem witness_IndexedQueries :
    CommandReady (withSuspects 16 linked) ∧ (0x03 : Byte).toNat = (3 : PlaneId).val ∧ 3 < (4 : Byte).toNat ∧
      (0x07 : Byte).toNat = (7 : Fin 8).val ∧ 8 < (9 : Byte).toNat ∧
      ((15 : Byte).toNat ≤ 15 ∧ (withSuspects 16 linked).suspects[(15 : Byte).toNat]? =
        some { line := 15, reason := .noGoodCopy, planes := 1 }) ∧
      ((15 : Byte).toNat ≤ 15 ∧ (withSuspects 15 linked).suspects.length ≤ (15 : Byte).toNat) ∧
      CommandReady (withSuspects 15 linked) ∧ 15 < (16 : Byte).toNat := by decide

theorem witness_PolicyGetAnswers : CommandReady linked ∧ 5 < (6 : Byte).toNat := by decide

theorem witness_LogPeekAnswers :
    CommandReady linked ∧ linked.log.records = [] ∧ CommandReady (withRecords 1 linked) ∧
      (withRecords 1 linked).log.records = { seq := 0x01F4, body := body .mismatch, repeats := 1 } :: [] := by decide

theorem witness_ServiceAndGeometry :
    CommandReady linked ∧ (∀ p, (linked.plane p).state ≠ .online) ∧ (2 : Byte) ≠ 0 ∧ (2 : Byte) ≠ 1 ∧
      6 < (7 : Byte).toNat ∧ ((6 : Byte).toNat ≤ 6 ∧ linked.service = .halted ∧
        (∀ p, (linked.plane p).state.inService = false) ∧ linked.sweep.engine = .idle) ∧
      CommandReady (serving [1]) ∧ (∃ p, ((serving [1]).plane p).state = .online) ∧ (serving [1]).service = .serving := by
  decide

theorem witness_PlaneAdoptAndRelease :
    CommandReady linked ∧ 3 < (4 : Byte).toNat ∧ (3 : Byte).toNat = (3 : PlaneId).val ∧
      ((linked.plane 3).state = .offline ∧ (∀ q, (linked.plane q).state.inService = false) ∧ linked.sweep.engine = .idle ∧
        (linked.plane 3).link = .up) ∧
      (CommandReady State.reset ∧ (State.reset.plane 3).state = .offline ∧ (State.reset.plane 3).link = .down ∧
        (∀ q, (State.reset.plane q).state.inService = false) ∧ State.reset.sweep.engine = .idle) ∧
      (CommandReady (serving [1]) ∧ ∃ q, ((serving [1]).plane q).state.inService = true) ∧
      (linked.plane 3).state ≠ .failed ∧ CommandReady (inState .failed linked 3) ∧
      ((inState .failed linked 3).plane 3).state = .failed := by decide

/-- P1 and P2 ONLINE, P1 with an op. -/
def twoOnline : State := withOp 1 { owner := .host 4, line := 7, body := .read } (serving [1, 2])

theorem witness_PlaneDetachAnswers :
    (CommandReady twoOnline ∧ NothingDue twoOnline ∧ ∀ q, (twoOnline.plane q).state ≠ .detaching) ∧ 3 < (4 : Byte).toNat ∧
      ((1 : Byte).toNat = (1 : PlaneId).val ∧ (twoOnline.plane 1).state = .online ∧
        (∃ q, q ≠ 1 ∧ (twoOnline.plane q).state = .online) ∧ (twoOnline.port 1).isEmpty = false) ∧
      ((2 : Byte).toNat = (2 : PlaneId).val ∧ (twoOnline.plane 2).state = .online ∧
        (∃ q, q ≠ 2 ∧ (twoOnline.plane q).state = .online) ∧ (twoOnline.port 2).isEmpty = true) ∧
      ((3 : Byte).toNat = (3 : PlaneId).val ∧ (twoOnline.plane 3).state ≠ .online) ∧
      (CommandReady reading ∧ NothingDue reading ∧ (∀ q, (reading.plane q).state ≠ .detaching) ∧
        (reading.plane 1).state = .online ∧ ∀ q, q ≠ 1 → (reading.plane q).state ≠ .online) := by decide

theorem witness_RegionSetAnswers :
    CommandReady linked ∧ (67108863 ≤ 67108863 ∧ 0 ≤ 67108863) ∧
      ({ resetAttrs with readSelect := .fixed 3 }.readSelect = .rotate ∨
        (3 : Byte) = { resetAttrs with readSelect := .fixed 3 }.readSelect.planeByte) ∧
      resetAttrs.readSelect = .rotate ∧ (List.replicate 9 (0xFF : Byte)).length = 9 ∧ 8 < (9 : Byte).toNat ∧
      1 < (2 : Byte).toNat ∧ ((1 : Byte) = 1 ∧ 3 < (4 : Byte).toNat) ∧
      (7 : Byte).toNat < 8 ∧ number4 0 0 0 1 < number4 0 0 0 2 ∧ 67108863 < number4 4 0 0 0 := by decide

theorem witness_PolicySetAnswers :
    CommandReady linked ∧ ¬(2 ≤ 1 ∧ 1 ≤ 1023) ∧ ¬(2 ≤ 1024 ∧ 1024 ≤ 1023) ∧ (2 ≤ 2 ∧ 2 ≤ 1023) ∧ (2 ≤ 1023 ∧ 1023 ≤ 1023) ∧
      (∀ p, ∀ x ∈ (linked.port p).queue.head?, linked.now ≤ x.issuedAt + 1023) ∧
      let s := { twoOnline with now := 3 }
      CommandReady s ∧ (s.plane 1).state = .online ∧ ¬(∀ x ∈ (s.port 1).queue.head?, s.now ≤ x.issuedAt + 2) ∧
        (s.plane 2).state = .online ∧ (∀ x ∈ (s.port 2).queue.head?, s.now ≤ x.issuedAt + 2) ∧
        (∀ p, ∀ x ∈ (s.port p).queue.head?, s.now ≤ x.issuedAt + 3) ∧ 2 < s.planeTimeout ∧
        { s with planeTimeout := 2 }.planeTimeout ≤ 2 := by decide

theorem witness_LogRemovals :
    CommandReady linked ∧ linked.log.records = [] ∧ CommandReady (withRecords 2 linked) ∧
      (withRecords 2 linked).log.records = { seq := 0x01F4, body := body .mismatch, repeats := 1 } ::
        [{ seq := 0x01F4, body := body .mismatch, repeats := 1 }] ∧
      (0x01F4 : BitVec 16) = (0x01 : Byte) ++ (0xF4 : Byte) ∧ (0x01F4 : BitVec 16) ≠ (0x01 : Byte) ++ (0xF5 : Byte) := by
  decide

theorem witness_SuspectAndAlertRemovals :
    CommandReady (withSuspects 2 linked) ∧ 67108863 < (67108864 : LineWord).toNat ∧ (67108863 : LineWord).toNat ≤ 67108863 ∧
      (∀ e ∈ (withSuspects 2 linked).suspects, e.line ≠ (67108863 : LineWord).toNat) ∧ (1 : LineWord).toNat ≤ 67108863 ∧
      ∃ e ∈ (withSuspects 2 linked).suspects, e.line = (1 : LineWord).toNat := by decide

/-- A rebuild of P2 runs, its slot 0 in flight. -/
def rebuilding : State :=
  (inState .syncing (withJob .running (job .rebuild 5 9 4 none) (serving [1])) 2).setSlot 0 (some { line := 4 })

/-- A rebuild of P2 runs with no slot in flight. -/
def rebuildIdle : State := inState .syncing (withJob .running (job .rebuild 5 4 4 none) (serving [1])) 2

theorem witness_SweepAbortAnswers :
    (CommandReady rebuildIdle ∧ (∀ q, (rebuildIdle.plane q).state ≠ .detaching) ∧ rebuildIdle.sweep.engine = .running ∧
      rebuildIdle.sweep.job = some (job .rebuild 5 4 4 none) ∧ noSlotInFlight rebuildIdle = true ∧
      targetsDrained rebuildIdle (job .rebuild 5 4 4 none) = true ∧ rebuildIdle.sweep.completions.length < 4) ∧
    (CommandReady (withCompletions 3 rebuildIdle) ∧ (withCompletions 3 rebuildIdle).sweep.completions.length < 4) ∧
    (CommandReady (withCompletions 4 rebuildIdle) ∧ noSlotInFlight (withCompletions 4 rebuildIdle) = true ∧
      targetsDrained (withCompletions 4 rebuildIdle) (job .rebuild 5 4 4 none) = true ∧
      4 ≤ (withCompletions 4 rebuildIdle).sweep.completions.length) ∧
    (CommandReady rebuilding ∧ (∀ q, (rebuilding.plane q).state ≠ .detaching) ∧ rebuilding.sweep.engine = .running ∧
      rebuilding.sweep.job = some (job .rebuild 5 9 4 none) ∧ noSlotInFlight rebuilding = false) ∧
    (CommandReady linked ∧ (∀ q, (linked.plane q).state ≠ .detaching) ∧ linked.sweep.engine = .idle) ∧
    (CommandReady ending ∧ (∀ q, (ending.plane q).state ≠ .detaching) ∧ ending.sweep.engine = .ending) ∧
    (withJob .aborting (job .rebuild 5 4 4 (some .abortedCommand)) linked).sweep.engine = .aborting := by decide

theorem witness_SweepStartRefusals :
    (CommandReady rebuilding ∧ rebuilding.sweep.engine ≠ .idle) ∧
    (CommandReady linked ∧ linked.sweep.engine = .idle ∧ ¬(((5 : Byte) = 1 ∨ (5 : Byte) = 2) ∨ (5 : Byte) = 3 ∨ (5 : Byte) = 4)
      ∧ (0 : Byte).toNat < 1 ∧ 4 < (5 : Byte).toNat ∧ 1 ≤ (4 : Byte).toNat ∧ (4 : Byte).toNat ≤ 4) ∧
    ((3 : LineWord).toNat < (4 : LineWord).toNat ∧ planeLines linked ≤ (16777216 : LineWord).toNat ∧
      (16777215 : LineWord).toNat < planeLines linked ∧ ∀ p, (linked.plane p).state ≠ .online) ∧
    (∀ p : PlaneId, ¬(0xF0 : Byte).getLsbD p.val = true) ∧
    (CommandReady (serving [1]) ∧ (serving [1]).sweep.engine = .idle ∧
      (∃ p : PlaneId, (2 : Byte).getLsbD p.val = true ∧ ((serving [1]).plane p).state ≠ .offline) ∧
      (∃ p : PlaneId, (8 : Byte).getLsbD p.val = true) ∧
      (∀ p : PlaneId, (8 : Byte).getLsbD p.val = true →
        ((serving [1]).plane p).state = .offline ∧ ((serving [1]).plane p).link = .up) ∧
      ∃ p, ((serving [1]).plane p).state.inService = true) ∧
    ((∀ p : PlaneId, (8 : Byte).getLsbD p.val = true → (State.reset.plane p).state = .offline) ∧
      ∃ p : PlaneId, (8 : Byte).getLsbD p.val = true ∧ (State.reset.plane p).link = .down) := by decide

theorem witness_SweepStartAccepted :
    (CommandReady (serving [1]) ∧ SweepSound (serving [1]) ∧ (serving [1]).sweep.engine = .idle ∧
      (1 : Byte) = JobKind.rebuild.code ∧ (3 : Byte) = JobKind.verify.code ∧ (4 : Byte) = JobKind.scrub.code ∧
      1 ≤ (1 : Byte).toNat ∧ (4 : Byte).toNat ≤ 4 ∧
      ((0 : LineWord).toNat ≤ (16777215 : LineWord).toNat ∧ (16777215 : LineWord).toNat < planeLines (serving [1])) ∧
      (∃ p : PlaneId, (8 : Byte).getLsbD p.val = true) ∧
      (∀ p : PlaneId, (8 : Byte).getLsbD p.val = true →
        ((serving [1]).plane p).state = .offline ∧ ((serving [1]).plane p).link = .up) ∧
      (∃ p, ((serving [1]).plane p).state = .online) ∧ (∀ m : SlotId, holdsLine (serving [1]) (.slot m) = false) ∧
      ∀ x ∈ (serving [1]).suspects, x.line < 0 ∨ 0 + 4 ≤ x.line) ∧
    (CommandReady (withSuspects 2 (serving [1])) ∧ SweepSound (withSuspects 2 (serving [1])) ∧
      (3 : LineWord).toNat ≤ (4 : LineWord).toNat ∧
      ∀ x ∈ (withSuspects 2 (serving [1])).suspects, x.line < 3 ∨ 3 + min 4 (4 + 1 - 3) ≤ x.line) ∧
    (CommandReady linked ∧ SweepSound linked ∧ linked.sweep.engine = .idle ∧ (2 : Byte) = JobKind.fill.code ∧
      (∀ p : PlaneId, (8 : Byte).getLsbD p.val = true → (linked.plane p).state = .offline ∧ (linked.plane p).link = .up) ∧
      (∀ p, (linked.plane p).state.inService = false) ∧ linked.service = .halted) ∧
    (CommandReady reading ∧ SweepSound reading ∧ reading.sweep.engine = .idle ∧ reading.suspects = [] ∧
      (7 : LineWord).toNat ≤ (8 : LineWord).toNat ∧ (8 : LineWord).toNat < planeLines reading ∧
      (∃ e ∈ reading.locks, e.line = 7 + 0) ∧ ∀ e ∈ reading.locks, e.line ≠ 7 + 1) :=
  ⟨by decide, by decide, by decide, by decide⟩

/-! ### The host channel -/

/-- The default entry refuses writes. -/
def protected_ : State := withAttrs { resetAttrs with protect := true } (serving [1])

theorem witness_AnsweredAtAcceptance :
    (requestReady (serving [1]) = true ∧ (serving [1]).tag 4 = .free ∧
      planeLines (serving [1]) ≤ (16777216 : LineWord).toNat) ∧
    (requestReady linked = true ∧ linked.tag 4 = .free ∧ (16777215 : LineWord).toNat < planeLines linked ∧
      linked.service = .halted) ∧
    (requestReady protected_ = true ∧ protected_.tag 4 = .free ∧ LineServed protected_ (16777215 : LineWord).toNat ∧
      (lookupRegion protected_ (16777215 : LineWord).toNat).attrs.protect = true) := by decide

/-- A region is VALID over a range of lines. -/
def withRegion (i : Fin 8) (base limit : Nat) (s : State) : State :=
  setRegion i { resetRegion with valid := true, base := base, limit := limit } s

/-- Region 2 covers lines 3 and 4, region 5 covers lines 0 to 4. -/
def twoRegions : State := withRegion 2 3 4 (withRegion 5 0 4 linked)

theorem witness_RegionLookup :
    let covers := fun (line : Nat) (i : Fin 8) =>
      twoRegions.regions[i].valid = true ∧ twoRegions.regions[i].base ≤ line ∧ line ≤ twoRegions.regions[i].limit
    (covers 3 2 ∧ ∀ k : Fin 8, k < 2 → ¬covers 3 k) ∧ (covers 4 2) ∧ (covers 2 5 ∧ ∀ k : Fin 8, k < 5 → ¬covers 2 k) ∧
      ∀ i : Fin 8, ¬covers 5 i := by decide

theorem witness_ProtocolDiscards :
    (requestReady reading = true ∧ namesKind 0x00 = false ∧ namesKind 0x03 = false ∧ reading.tag 4 ≠ .free) ∧
      requestReady { linked with pins := { linked.pins with hrstLow := true } } = false ∧
      requestReady { linked with pins := { linked.pins with inReset := true } } = false := by decide

theorem witness_AnsweredAtGrant :
    (TagReady (withSuspects 8 (serving [1])) 4 ∧ LineServed (withSuspects 8 (serving [1])) (7 : LineWord).toNat ∧
      lockOf (withSuspects 8 (serving [1])).locks (7 : LineWord).toNat = none ∧
      ∃ e ∈ (withSuspects 8 (serving [1])).suspects, e.line = (7 : LineWord).toNat) ∧
    (TagReady (serving []) 4 ∧ LineServed (serving []) (16777215 : LineWord).toNat ∧
      lockOf (serving []).locks (16777215 : LineWord).toNat = none ∧
      (∀ e ∈ (serving []).suspects, e.line ≠ (16777215 : LineWord).toNat) ∧ (∀ p, ((serving []).plane p).state ≠ .online) ∧
      (lookupRegion (serving []) (16777215 : LineWord).toNat).attrs.protect = false ∧
      writeSet (serving []) (16777215 : LineWord).toNat = 0) ∧
    (TagReady (serving [1]) 4 ∧ LineServed (serving [1]) 0 ∧ lockOf (serving [1]).locks 0 = none ∧
      writeSet (serving [1]) 0 ≠ 0) := by decide

/-- Read select FIXED P1. -/
def fixedTo1 (l : List PlaneId) : State := withAttrs { resetAttrs with readSelect := .fixed 1 } (serving l)

theorem witness_SingleReadIssues :
    (TagReady (serving [1, 2]) 4 ∧ LineServed (serving [1, 2]) (7 : LineWord).toNat ∧
      lockOf (serving [1, 2]).locks (7 : LineWord).toNat = none ∧
      (∀ e ∈ (serving [1, 2]).suspects, e.line ≠ (7 : LineWord).toNat) ∧
      (lookupRegion (serving [1, 2]) (7 : LineWord).toNat).attrs.readMode = .single ∧
      ((serving [1, 2]).plane 1).state = .online ∧ IssuesAtOnce (serving [1, 2]) 1 ∧
      (lookupRegion (serving [1, 2]) (7 : LineWord).toNat).attrs.readSelect = .rotate ∧
      ∀ q : PlaneId, ((serving [1, 2]).plane q).state = .online →
        ((1 : PlaneId) - ((serving [1, 2]).rotation + 1)).val ≤ (q - ((serving [1, 2]).rotation + 1)).val) ∧
    (TagReady (fixedTo1 [1, 0]) 4 ∧ (lookupRegion (fixedTo1 [1, 0]) 7).attrs.readSelect = .fixed 1 ∧
      ((fixedTo1 [1, 0]).plane 1).state = .online ∧ IssuesAtOnce (fixedTo1 [1, 0]) 1) ∧
    ((lookupRegion (fixedTo1 [2, 3]) 7).attrs.readSelect = .fixed 1 ∧ ((fixedTo1 [2, 3]).plane 1).state ≠ .online ∧
      ((fixedTo1 [2, 3]).plane 2).state = .online ∧ (∀ r, r < 2 → ((fixedTo1 [2, 3]).plane r).state ≠ .online) ∧
      TagReady (fixedTo1 [2, 3]) 4 ∧ IssuesAtOnce (fixedTo1 [2, 3]) 2) := by decide

/-- Read mode COMPARE. -/
def comparing : State := withAttrs { resetAttrs with readMode := .compare } (serving [1, 2])

theorem witness_CompareReadIssues :
    TagReady comparing 4 ∧ LineServed comparing (7 : LineWord).toNat ∧ lockOf comparing.locks (7 : LineWord).toNat = none ∧
      (∀ e ∈ comparing.suspects, e.line ≠ (7 : LineWord).toNat) ∧
      (lookupRegion comparing (7 : LineWord).toNat).attrs.readMode = .compare ∧ (∃ p, (comparing.plane p).state = .online) ∧
      ∀ p, (comparing.plane p).state = .online → IssuesAtOnce comparing p := by decide

theorem witness_WriteIssues :
    TagReady rebuildIdle 4 ∧ LineServed rebuildIdle (4 : LineWord).toNat ∧
      lockOf rebuildIdle.locks (4 : LineWord).toNat = none ∧
      (lookupRegion rebuildIdle (4 : LineWord).toNat).attrs.protect = false ∧ (1 : ByteMask) ≠ 0 ∧
      ((rebuildIdle.plane 2).state = .syncing ∧ rebuildIdle.sweep.engine = .running ∧
        rebuildIdle.sweep.job = some (job .rebuild 5 4 4 none) ∧ (4 : LineWord).toNat < 5) ∧
      (rebuildIdle.plane 1).state = .online ∧ IssuesAtOnce rebuildIdle 1 ∧ IssuesAtOnce rebuildIdle 2 ∧
      ∀ p, (rebuildIdle.plane p).state = .online ∨ (rebuildIdle.plane p).state = .syncing → p = 1 ∨ p = 2 := by decide

/-- The position of tag 5 is kept by an earlier request. -/
def keptAt5 : State :=
  reading.setPosition 5 { kept := some (request .write (.write (writingWork false))), heldBack := none }

/-- Line 7 is held by the read of tag 4, and these states bring a READ that joins it to a POISON, a NO_PLANE, a SINGLE choice, a
FIXED choice and a COMPARE. -/
def joined : List State :=
  [withSuspects 8 reading, inState .failed reading 1, reading, withAttrs { resetAttrs with readSelect := .fixed 1 } reading,
    withAttrs { resetAttrs with readMode := .compare } reading]

theorem witness_RequestWaits :
    (requestReady (writing true) = true ∧ (writing true).tag 5 = .free ∧ LineServed (writing true) (7 : LineWord).toNat ∧
      (writing true).position 5 = { kept := none, heldBack := none } ∧ LocksSound (writing true) ∧
      (∃ e ∈ (writing true).locks, e.line = (7 : LineWord).toNat ∧ e.kind ≠ some .hostRead) ∧
      (lookupRegion (writing true) (7 : LineWord).toNat).attrs.protect = false) ∧
    (requestReady keptAt5 = true ∧ keptAt5.tag 5 = .free ∧ LineServed keptAt5 (7 : LineWord).toNat ∧
      (keptAt5.position 5).kept = some (request .write (.write (writingWork false))) ∧
      (lookupRegion keptAt5 (7 : LineWord).toNat).attrs.protect = false) ∧
    (∀ s ∈ joined, requestReady s = true ∧ s.tag 5 = .free ∧ LineServed s (7 : LineWord).toNat ∧
      s.position 5 = { kept := none, heldBack := none } ∧ LocksSound s ∧ holdsLine s (.host 5) = false ∧
      ∃ e ∈ s.locks, e.line = (7 : LineWord).toNat ∧ e.kind = some .hostRead ∧ e.waiting = []) ∧
    (∃ x ∈ (withSuspects 8 reading).suspects, x.line = (7 : LineWord).toNat) ∧
    (∀ p, ((inState .failed reading 1).plane p).state ≠ .online) ∧
    ∀ s ∈ joined.drop 2, (∀ x ∈ s.suspects, x.line ≠ (7 : LineWord).toNat) ∧ IssuesAtOnce s 1 ∧
      ∀ q, (s.plane q).state = .online ↔ q = 1 := by
  refine ⟨?_, ?_, ?_, ?_, ?_, ?_⟩ <;> decide +kernel

/-- The answered read still holds its line. -/
def answeredHolding : State := withLock 7 .hostRead (.host 4) [] answeredState

/-- A read answered at acceptance, its position kept by an earlier request that holds its line. -/
def answeredEarly : State :=
  withLock 7 .hostRead (.host 4) [] { (linked.setTag 4 (.queued { kind := .read, line := 7, copied := none, work := none }
      .notReady)).setPosition 4 { kept := some (request .read (.read readingWork)), heldBack := none } with
    responses := [{ kind := .read, tag := 4, status := .notReady, data := 0 }] }

theorem witness_ResponseTaken :
    (linked.responses = [] ∧ requestReady { linked with pins := { linked.pins with hrstLow := true } } = false) ∧
    (answeredState.responses = { kind := .read, tag := 4, status := .noPlane, data := 0 } :: [] ∧
      requestReady answeredState = true ∧ answeredState.tag 4 = .queued (request .read (.read readingWork)) .noPlane ∧
      (answeredState.position 4).kept = none ∧ holdsLine answeredState (.host 4) = false) ∧
    (answeredEarly.responses = { kind := .read, tag := 4, status := .notReady, data := 0 } :: [] ∧
      requestReady answeredEarly = true ∧ answeredEarly.tag 4 = .queued { kind := .read, line := 7, copied := none, work := none }
        .notReady ∧ (answeredEarly.position 4).kept ≠ none) ∧
    (answeredHolding.responses = { kind := .read, tag := 4, status := .noPlane, data := 0 } :: [] ∧
      requestReady answeredHolding = true ∧ answeredHolding.tag 4 = .queued (request .read (.read readingWork)) .noPlane ∧
      (answeredHolding.position 4).kept = none ∧ (request .read (.read readingWork)).work ≠ none ∧
      holdsLine answeredHolding (.host 4) = true) := by decide +kernel

/-- The write of two planes, its op for P2 not issued yet. -/
def halfIssued : State :=
  (writing true).setPort 2 { resetPort with hostList := [{ owner := .host 4, line := 7, body := .write fullMask 5 }] }

/-- A read answered RECOVERED whose repair write to P1 is out. -/
def repairWork : ReadRec := { readSet := 6, tried := 6, response := some .recovered, repairSet := 2, repairsOut := 2 }

/-- The write of line 8 that an orphan of an earlier reset has in the queue of P2. -/
def earlierOrphan : Request := { request .write (.write { writingWork false with orphan := true, outstanding := 4 }) with line := 8 }

/-- Position 3 keeps `earlierOrphan`; the repair write of tag 4's read, and a sweep op behind it, are not issued yet, for the link of
P1 is DOWN. -/
def twoHeld : State :=
  withLock 8 .hostWrite (.host 3) [] <| withLock 7 .hostRead (.host 4) [] <|
    ((withOp 2 { owner := .host 3, line := 8, body := .write fullMask 5 } (waitingPort (serving [2]))).setTag 4
      (.queued (request .read (.read repairWork)) .recovered)).setPosition 3 { kept := some earlierOrphan, heldBack := none }
where
  waitingPort (s : State) : State := s.setPort 1 { resetPort with
    hostList := [{ owner := .host 4, line := 7, body := .write fullMask 5 }]
    sweepList := [{ owner := .slot 0, line := 9, body := .read }] }

theorem witness_HostChannelReset :
    (reading.pins.hrstLow = false ∧
      (∀ t : Tag, holdsLine reading (.host t) = true → ∃ r, requestAt reading t = some r ∧ r.work ≠ none) ∧
      holdsLine reading (.host 4) = true ∧ requestAt reading 4 = some (request .read (.read readingWork)) ∧
      readingWork.orphan = false ∧ (∀ e ∈ reading.locks, ∀ c ∈ e.waiting, c.isSweep = false) ∧
      reading.sweep.engine ≠ .aborting ∧ ∀ q, (reading.plane q).state ≠ .detaching) ∧
    (halfIssued.pins.hrstLow = false ∧
      (∀ t : Tag, holdsLine halfIssued (.host t) = true → ∃ r, requestAt halfIssued t = some r ∧ r.work ≠ none) ∧
      requestAt halfIssued 4 = some (request .write (.write (writingWork true))) ∧ (writingWork true).orphan = false ∧
      inSet (writingWork true).outstanding 2 = true ∧ ∃ op ∈ (halfIssued.port 2).hostList, op.owner = .host 4) ∧
    (twoHeld.pins.hrstLow = false ∧
      (∀ t : Tag, holdsLine twoHeld (.host t) = true → ∃ r, requestAt twoHeld t = some r ∧ r.work ≠ none) ∧
      (requestAt twoHeld 3 = some earlierOrphan ∧ holdsLine twoHeld (.host 3) = true ∧ earlierOrphan.isOrphan = true ∧
        earlierOrphan.settled = false) ∧
      (requestAt twoHeld 4 = some (request .read (.read repairWork)) ∧ holdsLine twoHeld (.host 4) = true ∧
        repairWork.orphan = false ∧ inSet repairWork.repairsOut 1 = true ∧ ∃ op ∈ (twoHeld.port 1).hostList, op.owner = .host 4) ∧
      (twoHeld.port 1).sweepList ≠ [] ∧ ∀ e ∈ twoHeld.locks, ∀ c ∈ e.waiting, c.isSweep = false) := by
  refine ⟨⟨by decide, fun t h => ?_, by decide, by decide +kernel, by decide, by decide, by decide, by decide⟩,
    ⟨by decide, fun t h => ?_, by decide +kernel, by decide, by decide, by decide⟩,
    by decide, fun t h => ?_, by decide +kernel, by decide +kernel, by decide, by decide⟩
  · have : t = 4 := by revert t; decide
    subst this
    exact ⟨request .read (.read readingWork), by decide +kernel, by decide⟩
  · have : t = 4 := by revert t; decide
    subst this
    exact ⟨request .write (.write (writingWork true)), by decide +kernel, by decide⟩
  · have : t = 3 ∨ t = 4 := by revert t; decide
    obtain rfl | rfl := this
    · exact ⟨earlierOrphan, by decide +kernel, by decide⟩
    · exact ⟨request .read (.read repairWork), by decide +kernel, by decide⟩

theorem witness_ResetEdges :
    linked.pins.inReset = false ∧ { linked with pins := { linked.pins with inReset := true } }.pins.inReset = true ∧
      { linked with pins := { linked.pins with hrstLow := true } }.pins.hrstLow = true := by decide

/-! ### The plane links -/

theorem witness_LinkEventsWithoutEffect :
    ((linked.plane 1).state.inService = false ∧ NothingDue linked ∧ (linked.port 1).queue = []) ∧
      (3 : BitVec 3) ≠ (reading.port 1).gen ∧ namesKind 0x00 = false ∧ namesKind 0x03 = false := by decide

/-- P1 and P2 each hold an op, that of P2 the younger. -/
def twoTimers : State := withOp 2 { owner := .host 5, line := 8, body := .read } { twoOnline with now := 9 }

/-- Behind the read of tag 4 stands an op that is overdue too. -/
def overdueNext : State := { withOp 1 { owner := .host 5, line := 8, body := .read } reading with now := 65 }

/-- Behind the write of tag 4 stands an op that is overdue too, and a job runs that has no target. -/
def overdueWrite : State :=
  { withOp 1 { owner := .host 5, line := 8, body := .read } (withJob .running (job .verify 5 9 0 none) (writing false)) with
    now := 65 }

theorem witness_PlaneFailure :
    ((twoTimers.port 2).queue.head? = some { op := { owner := .host 5, line := 8, body := .read }, slot := 0, gen := 0, issuedAt := 9 } ∧
      (twoTimers.port 1).queue.head? =
        some { op := { owner := .host 4, line := 7, body := .read }, slot := 0, gen := 0, issuedAt := 0 } ∧
      (twoTimers.plane 2).state = .online ∧ (twoTimers.plane 1).state = .online ∧
      twoTimers.now ≤ 9 + twoTimers.planeTimeout ∧ 0 < 9) ∧
    ((reading.plane 1).state.inService = true ∧ DetachTracked reading ∧ failsPlane reading 1 (.lrdyFalling 1) .linkLost ∧
      failsPlane reading 1 (.planeTimeoutExpiry 1) .timeout ∧
      failsPlane reading 1 (.unknownKindResponse 1 0 0 0x03 0) .linkFault ∧
      failsPlane reading 1 (.readResponse 1 0 0 0x02 0) .linkFault ∧
      failsPlane reading 1 (.writeResponse 1 0 0 0x00) .linkFault ∧ (reading.plane 1).state = .online ∧
      reading.sweep.engine = .idle ∧ (∀ q, (reading.plane q).state ≠ .detaching) ∧
      ∀ q, q ≠ 1 → (reading.plane q).state ≠ .online) ∧
    ((overdueNext.plane 1).state.inService = true ∧ DetachTracked overdueNext ∧
      failsPlane overdueNext 1 (.readResponse 1 0 0 0x00 9) .timeout) ∧
    ((overdueWrite.plane 1).state.inService = true ∧ DetachTracked overdueWrite ∧
      failsPlane overdueWrite 1 (.writeResponse 1 0 0 0x00) .timeout) ∧
    ((twoOnline.plane 1).state.inService = true ∧ DetachTracked twoOnline ∧
      ∃ q, q ≠ 1 ∧ (twoOnline.plane q).state = .online) ∧
    ((detaching.plane 2).state = .detaching ∧ DetachTracked detaching ∧
      failsPlane detaching 2 (.lrdyFalling 2) .linkLost) := by
  refine ⟨by decide, ⟨by decide, by decide, rfl, ⟨rfl, _, rfl, .inr ?_⟩, ⟨rfl, rfl, by decide⟩, ⟨rfl, rfl, .inl (by decide)⟩,
    ⟨rfl, rfl, .inr ?_⟩, by decide, by decide, by decide, by decide⟩,
    ⟨by decide, by decide, rfl, rfl, rfl, by decide, .inl (by decide), _, rfl, rfl, _, _, rfl, by decide⟩,
    ⟨by decide, by decide, rfl, rfl, rfl, by decide, .inr (by decide), _, rfl, by decide, _, _, rfl, by decide⟩,
    by decide, by decide, by decide, rfl⟩
  · decide
  · decide

/-- An op of line 7 of tag 4 as it stands in a queue. -/
def queued (body : OpBody) : QueuedOp := { op := { owner := .host 4, line := 7, body := body }, slot := 0, gen := 0, issuedAt := 0 }

/-- P1 in a state, its queue holding ops of line 7 of tag 4, P2 ONLINE; a PLANE_DETACH is pending where it is DETACHING. -/
def ending7 (x : PlaneState) (ops : List OpBody) : State :=
  let s := ops.foldl (fun s b => withOp 1 { owner := .host 4, line := 7, body := b } s) (inState x (serving [1, 2]) 1)
  { s with mgmt := { s.mgmt with busy := x == .detaching } }

theorem witness_ErrorsCounted :
    (∀ x ∈ [PlaneState.online, .detaching], ∀ ops ∈ [[], [OpBody.read]],
      let s := ending7 x (.read :: ops)
      DetachTracked s ∧ (s.port 1).queue = queued .read :: (s.port 1).queue.tail ∧ (s.plane 1).state = x ∧
        InTime s (s.port 1).queue.tail ∧ (s.port 1).hostList = [] ∧ (s.port 1).sweepList = [] ∧
        (s.plane 1).errorCount + 1 < s.errorLimit ∧ { s with errorLimit := 1 }.errorLimit ≤ (s.plane 1).errorCount + 1) ∧
    ((ending7 .detaching [.read]).port 1).queue.tail = [] ∧ ((ending7 .detaching [.read, .read]).port 1).queue.tail ≠ [] ∧
    ∀ x ∈ [PlaneState.online, .syncing, .detaching],
      let s := ending7 x [.write fullMask 5]
      DetachTracked s ∧ (s.port 1).queue = queued (.write fullMask 5) :: [] ∧ OpBody.write fullMask 5 ≠ .read ∧
        (s.plane 1).state = x ∧ s.sweep.engine ≠ .running := by
  refine ⟨?_, by decide, by decide, ?_⟩ <;> decide +kernel

/-- A SINGLE READ of line 7 by tag 4 waits for P1, in a state, with other ops behind; P2 is ONLINE. -/
def singleEnd (x : PlaneState) (ops : List OpBody) (erred : PlaneSet) (repair : Bool) : State :=
  withLock 7 .hostRead (.host 4) [] <| (ending7 x (.read :: ops)).setTag 4
    (.inWork (singleRequest erred repair))
where
  singleRequest (erred : PlaneSet) (repair : Bool) : Request :=
    { request .read (.read { readSet := 6, tried := 6, outstanding := 2, erred := erred }) with
      copied := some { index := 8, attrs := { resetAttrs with repair := repair } } }

theorem witness_SingleReadServed :
    (∀ x ∈ [PlaneState.online, .detaching], ∀ ops ∈ [[], [OpBody.read]], ∀ erred ∈ [(0 : PlaneSet), 4], ∀ repair : Bool,
      let s := singleEnd x ops erred repair
      let r := singleEnd.singleRequest erred repair
      (s.port 1).queue = queued .read :: (s.port 1).queue.tail ∧ (s.port 1).hostList = [] ∧ (s.port 1).sweepList = [] ∧
        InTime s (s.port 1).queue.tail ∧ s.tag 4 = .inWork r ∧ r.kind = .read ∧ r.attrs.readMode = .single ∧
        r.attrs.repair = repair ∧ HoldsAlone s 4 7 ∧ NothingDue s ∧ (s.plane 2).state = .online ∧ IssuesAtOnce s 2 ∧
        inSet erred 1 = false ∧ ∀ q : PlaneId, inSet erred q = true → q = 2) ∧
    (StaysInService (singleEnd .online [] 0 true) 1 [] ∧
      ((singleEnd .detaching [] 0 true).plane 1).state = .detaching ∧
      StaysInService (singleEnd .detaching [.read] 4 true) 1 ((singleEnd .detaching [.read] 4 true).port 1).queue.tail ∧
      inSet (4 : PlaneSet) 2 = true) := by
  constructor <;> decide +kernel

/-- A position keeps this request of line 7, one of its ops in the queue of P1. -/
def keptEnd (body : OpBody) (r : Request) : State :=
  (withLock 7 (if r.kind = .read then .hostRead else .hostWrite) (.host 4) [] <|
    withOp 1 { owner := .host 4, line := 7, body := body } (serving [1, 2])).setPosition 4 { kept := some r, heldBack := none }

/-- An orphan and an answered WRITE, of one plane and of two, and a READ with a repair write out. -/
def keptRequests : List Request :=
  [request .write (.write { writingWork false with orphan := true }), request .write (.write { writingWork true with orphan := true }),
    request .write (.write { writingWork true with response := some .ok }), request .read (.read repairWork)]

/-- The read of `repairWork`, not taken yet. -/
def repairEnd : State :=
  withLock 7 .hostRead (.host 4) [] <| withOp 1 { owner := .host 4, line := 7, body := .write fullMask 5 } <|
    (serving [1, 2]).setTag 4 (.queued (request .read (.read repairWork)) .recovered)

/-- Records of a live WRITE of line 7: of P1 alone; of P1 and P2; and at the end of P1's op, P2 ended OK, and lost. -/
def liveWrites : List WriteRec :=
  [writingWork false, writingWork true, { writingWork false with endedOk := 4 }, { writingWork false with endedLost := 4 }]

/-- Tag 4's write with this record, under this acknowledgement. -/
def writeRequest (w : WriteRec) (ack : WriteAck) : Request :=
  { request .write (.write w) with copied := some { index := 8, attrs := { resetAttrs with ack := ack } } }

/-- The write of `writeRequest`, its op in the queue of P1, and its tag in this entry. -/
def writeEnd7 (x : PlaneState) (ops : List OpBody) (entry : TagEntry) : State :=
  withLock 7 .hostWrite (.host 4) [] <| (ending7 x (.write fullMask 5 :: ops)).setTag 4 entry

/-- Tag 4 and position 4 of a state, and line 7, as a live or answered WRITE has them. -/
abbrev Entered (s : State) (entry : TagEntry) : Prop :=
  LineAlone s 4 7 ∧ s.position 4 = { kept := none, heldBack := none } ∧ s.tag 4 = entry

theorem witness_WriteEndOk :
    (∀ e ∈ [OpEnd.writeOk, .writeError, .lost], ∀ w ∈ liveWrites, ∀ ack ∈ [WriteAck.first, .all],
      let r := writeRequest w ack
      let s := writeEnd7 .online [] (.inWork r)
      OldestEnds s 1 (queued (.write fullMask 5)) [] e ∧ Entered s (.inWork r) ∧ r.kind = .write ∧ r.line = 7 ∧
        r.attrs.ack = ack ∧ w.orphan = false ∧ w.response = none) ∧
    liveWrites.map (fun w => dropPlane w.outstanding 1) = [0, 4, 0, 0] ∧
    (∀ e ∈ [OpEnd.writeOk, .writeError, .lost],
      let r := writeRequest { writingWork true with response := some .ok } .first
      let s := writeEnd7 .online [] (.queued r .ok)
      OldestEnds s 1 (queued (.write fullMask 5)) [] e ∧ Entered s (.queued r .ok)) ∧
    (∀ x ∈ [PlaneState.syncing, .detaching],
      let r := writeRequest (writingWork true) .all
      let s := writeEnd7 x [.read] (.inWork r)
      EndsAlone s 1 (queued (.write fullMask 5)) (s.port 1).queue.tail .writeOk ∧ Entered s (.inWork r)) ∧
    (∀ e ∈ [OpEnd.writeOk, .writeError, .lost], ∀ r ∈ keptRequests,
      let s := keptEnd (.write fullMask 5) r
      OldestEnds s 1 (queued (.write fullMask 5)) [] e ∧ LineAlone s 4 7 ∧ r.line = 7 ∧
        s.position 4 = { kept := some r, heldBack := none }) ∧
    (∀ e ∈ [OpEnd.writeOk, .writeError, .lost],
      OldestEnds repairEnd 1 (queued (.write fullMask 5)) [] e ∧
        Entered repairEnd (.queued (request .read (.read repairWork)) .recovered)) := by
  refine ⟨?_, by decide, ?_, ?_, ?_, ?_⟩
  · decide +kernel
  · decide +kernel
  · intro x hx
    refine ⟨.inr ⟨rfl, ?_⟩, ?_⟩ <;> revert x <;> decide +kernel
  · decide +kernel
  · decide +kernel

/-- A read of two planes of which P1 has been tried. -/
def retryWork : ReadRec := { readSet := 6, tried := 2, outstanding := 2 }

/-- The read of `retryWork`, its op in the queue of P1. -/
def retrying : State :=
  withLock 7 .hostRead (.host 4) [] <| withOp 1 { owner := .host 4, line := 7, body := .read } <|
    (serving [1, 2]).setTag 4 (.inWork (request .read (.read retryWork)))

/-- An orphan READ of P1, of P1 and P2, and of P1 after an error. -/
def orphanReads : List ReadRec :=
  [{ readingWork with orphan := true }, { readingWork with orphan := true, outstanding := 6 },
    { readingWork with orphan := true, pendingRecord := some 4 }]

theorem witness_SingleReadErred :
    (∀ e ∈ [OpEnd.dataError, .lost], OldestEnds retrying 1 (queued .read) [] e ∧
      retrying.tag 4 = .inWork (request .read (.read retryWork)) ∧ retryWork.orphan = false ∧
      (request .read (.read retryWork)).attrs.readMode = .single ∧ inSet retryWork.tried 1 = true ∧
      (retrying.position 4).kept = none ∧
      (inSet retryWork.readSet 2 = true ∧ (retrying.plane 2).state = .online ∧ inSet retryWork.tried 2 = false) ∧
      (∀ v : PlaneId, inSet retryWork.readSet v = true → inSet retryWork.tried v = false → v = 2) ∧ IssuesAtOnce retrying 2) ∧
    (∀ e ∈ [OpEnd.dataError, .lost], OldestEnds reading 1 (queued .read) [] e ∧
      reading.tag 4 = .inWork (request .read (.read readingWork)) ∧ readingWork.orphan = false ∧
      inSet readingWork.tried 1 = true ∧ (reading.position 4).kept = none ∧
      (∀ q : PlaneId, ¬(inSet readingWork.readSet q = true ∧ (reading.plane q).state = .online ∧
        inSet readingWork.tried q = false)) ∧
      HoldsAlone reading 4 7 ∧ reading.suspects.length < 16 ∧ ∀ y ∈ reading.suspects, y.line ≠ 7) ∧
    (readingWork.erred = 0 ∧ addPlane readingWork.erred 1 ≠ 0) ∧
    (∀ e ∈ [OpEnd.dataError, .lost, .readOk 9], ∀ x ∈ orphanReads,
      let s := keptEnd .read (request .read (.read x))
      OldestEnds s 1 (queued .read) [] e ∧ LineAlone s 4 7 ∧
        s.position 4 = { kept := some (request .read (.read x)), heldBack := none } ∧ x.orphan = true ∧ x.repairsOut = 0) ∧
    orphanReads.map (fun x => dropPlane x.outstanding 1) = [0, 4, 0] := by
  refine ⟨?_, ?_, ?_, ?_, ?_⟩ <;> decide +kernel

/-- A COMPARE READ of line 7 by tag 4 that waits for the end of P1's op alone. -/
def compareRequest (copies : List (PlaneId × LineData)) (erred : PlaneSet) (repair : Bool) : Request :=
  { request .read (.read (compareWork copies erred)) with
    copied := some { index := 8, attrs := { resetAttrs with readMode := .compare, repair := repair } } }
where
  compareWork (copies : List (PlaneId × LineData)) (erred : PlaneSet) : ReadRec :=
    { readSet := 14, tried := 14, outstanding := 2, copies := copies, erred := erred }

/-- The read of `compareRequest`, its last op in the queue of P1. -/
def comparing7 (copies : List (PlaneId × LineData)) (erred : PlaneSet) (repair : Bool) : State :=
  withLock 7 .hostRead (.host 4) [] <| withOp 1 { owner := .host 4, line := 7, body := .read } <|
    (serving [1, 2, 3]).setTag 4 (.inWork (compareRequest copies erred repair))

/-- Copies that make each vote, before P1's. -/
def copiesBefore : List (List (PlaneId × LineData)) := [[], [(2, 9)], [(2, 9), (3, 9)], [(2, 9), (3, 8)], [(2, 7), (3, 8)]]

theorem witness_CompareReadSettles :
    (∀ copies ∈ copiesBefore, ∀ erred ∈ [(0 : PlaneSet), 8], ∀ repair : Bool, ∀ e ∈ [OpEnd.readOk 9, .dataError, .lost],
      let s := comparing7 copies erred repair
      OldestEnds s 1 (queued .read) [] e ∧ s.tag 4 = .inWork (compareRequest copies erred repair) ∧
        (s.position 4).kept = none ∧ HoldsAlone s 4 7 ∧ s.suspects = []) ∧
    (∀ e ∈ [OpEnd.readOk 9, .dataError, .lost],
      let base := planeEnded 1 [] e (comparing7 [(2, 9), (3, 8)] 0 true)
      (base.plane 3).state = .online ∧ IssuesAtOnce base 3) ∧
    (∀ copies ∈ copiesBefore, ∀ erred ∈ [(0 : PlaneSet), 8], ∀ repair : Bool,
      let r := compareRequest copies erred repair
      let x := compareRequest.compareWork copies erred
      r.kind = .read ∧ r.attrs.readMode = .compare ∧ r.attrs.repair = repair ∧ x.orphan = false ∧
        x.outstanding = onePlane 1 ∧ (copies.map Prod.fst).Nodup ∧ 1 ∉ copies.map Prod.fst) ∧
    (vote [(2, 9), (3, 9), (1, 9)] 0 = .agreed 9 ∧ vote [(2, 9), (1, 9)] 8 = .agreed 9 ∧
      vote [(2, 9), (3, 8), (1, 9)] 0 = .majority 9 8 ∧ vote [(2, 7), (3, 8), (1, 9)] 0 = .split ∧
      vote [(2, 9), (3, 8)] 2 = .split ∧ vote [] 10 = .noGoodCopy ∧ vote [] 0 = .nothing) ∧
    (∀ q : PlaneId, inSet (8 ||| (0 : PlaneSet)) q = true ↔ q = 3) ∧ copyPlanes [(2, 9), (3, 8)] = 12 := by
  refine ⟨?_, ?_, ?_, ?_, ?_⟩ <;> decide +kernel

/-- Slot 0 works on line 4 of a job with one of its ops in a plane's queue; slot 1 is in flight too. -/
def slotWorks (kind : JobKind) (cursor : Nat) (p : PlaneId) (body : OpBody) (w : SlotWork) : State :=
  withLock 4 .sweep (.slot 0) [] <| withOp p { owner := .slot 0, line := 4, body := body } <|
    ((inState .syncing (withJob .running (job kind cursor 9 4 none) (serving [1])) 2).setSlot 0 (some w)).setSlot 1
      (some { line := 9 })

/-- The op of line 4 that slot 0 has in a plane's queue. -/
def slotOp (body : OpBody) : QueuedOp := { op := { owner := .slot 0, line := 4, body := body }, slot := 0, gen := 0, issuedAt := 0 }

/-- The job goes on when slot 0's line is done, and no other claim stands on that line. -/
abbrev GoesOn (s : State) (j : Job) : Prop :=
  s.sweep.engine = .running ∧ j.last < j.cursor ∧ (∃ v : SlotId, v ≠ 0 ∧ s.slot v ≠ none) ∧ (s.locks.map LockEntry.line).Nodup ∧
    (∃ e ∈ s.locks, e.line = 4 ∧ e.holders = [.slot 0] ∧ e.waiting = []) ∧ ∀ e ∈ s.locks, .slot 0 ∈ e.holders → e.line = 4

theorem witness_SweepLineEnds :
    (∀ erred ∈ [(0 : PlaneSet), 8],
      let s := slotWorks .rebuild 6 1 .read { line := 4, erred := erred };
      (s.port 1).queue = slotOp .read :: [] ∧
      (s.port 1).hostList = [] ∧ (s.port 1).sweepList = [] ∧ s.slot 0 = some { line := 4, erred := erred } ∧
      s.sweep.job = some (job .rebuild 6 9 4 none) ∧ NothingDue s ∧ (s.plane 1).state = .online ∧
      (inSet (4 : PlaneSet) 2 = true ∧ (s.plane 2).state = .syncing) ∧
      (∀ q : PlaneId, inSet (4 : PlaneSet) q = true → (s.plane q).state = .syncing →
        IssuesAtOnce s q ∧ (s.port q).hostGrants = 0) ∧ InTime s []) ∧
    (∀ c ∈ [(JobKind.fill, (2 : PlaneId), PlaneState.syncing), (.rebuild, 2, .syncing), (.scrub, 1, .online)],
      let w : SlotWork := { line := 4, writesOut := onePlane c.2.1 }
      let s := slotWorks c.1 10 c.2.1 (.write fullMask 5) w;
      (s.port c.2.1).queue = slotOp (.write fullMask 5) :: [] ∧
      (s.port c.2.1).hostList = [] ∧ (s.port c.2.1).sweepList = [] ∧ s.slot 0 = some w ∧
      s.sweep.job = some (job c.1 10 9 4 none) ∧ NothingDue s ∧ (s.plane c.2.1).state = c.2.2 ∧ InTime s [] ∧
      GoesOn s (job c.1 10 9 4 none)) ∧
    (let w : SlotWork := { line := 4, tried := 2, outstanding := 2 }
      let s := inState .online (slotWorks .rebuild 10 1 .read w) 0
      OldestEnds s 1 (slotOp .read) [] .dataError ∧ s.slot 0 = some w ∧ s.sweep.job = some (job .rebuild 10 9 4 none) ∧
      (∀ q, (s.plane q).state = .online ∧ inSet w.tried q = false ↔ q = 0) ∧ IssuesAtOnce s 0 ∧ (s.port 0).hostGrants = 0) ∧
    (∀ suspects ∈ [[], (List.range 16).map fun i => ({ line := 20 + i, reason := .noGoodCopy, planes := 1 } : SuspectEntry)],
      let w : SlotWork := { line := 4, tried := 2, outstanding := 2 }
      let s := { slotWorks .rebuild 10 1 .read w with suspects := suspects }
      OldestEnds s 1 (slotOp .read) [] .dataError ∧ s.slot 0 = some w ∧ s.sweep.job = some (job .rebuild 10 9 4 none) ∧
      (∀ q, ¬((s.plane q).state = .online ∧ inSet w.tried q = false)) ∧ GoesOn s (job .rebuild 10 9 4 none) ∧
      (∀ y ∈ s.suspects, y.line ≠ 4) ∧ s.suspects.length = suspects.length) ∧
    (∀ kind ∈ [JobKind.verify, .scrub], ∀ e ∈ [OpEnd.readOk 9, .dataError], ∀ erred ∈ [(0 : PlaneSet), 8],
      ∀ copies ∈ [[], [((0 : PlaneId), (9 : LineData))], [(3, 8)], [(0, 9), (3, 8)]],
      let w : SlotWork := { line := 4, outstanding := onePlane 1, copies := copies, erred := erred }
      let s := inState .online (slotWorks kind 10 1 .read w) 3
      OldestEnds s 1 (slotOp .read) [] e ∧ s.slot 0 = some w ∧ s.sweep.job = some (job kind 10 9 4 none) ∧
      GoesOn s (job kind 10 9 4 none) ∧ s.suspects = []) ∧
    (∀ e ∈ [OpEnd.readOk 9, .dataError],
      let s := inState .online (slotWorks .scrub 10 1 .read { line := 4 }) 3
      (s.plane 3).state = .online ∧ IssuesAtOnce (planeEnded 1 [] e s) 3 ∧ (s.port 3).hostGrants = 0) ∧
    (vote [(0, 9), (1, 9)] 0 = .agreed 9 ∧ vote [(0, 9), (1, 9)] 8 = .agreed 9 ∧ vote [(3, 8), (1, 9)] 0 = .split ∧
      vote [] 10 = .noGoodCopy ∧ vote [(0, 9), (3, 8), (1, 9)] 0 = .majority 9 8) ∧
    copyPlanes [(3, 8), (1, 9)] = 10 ∧ ∀ q : PlaneId, inSet (8 : PlaneSet) q = true ↔ q = 3 := by
  refine ⟨?_, ?_, ?_, ?_, ?_, ?_, ?_, ?_⟩ <;> decide +kernel

/-- Ops wait on both lists of P1, whose link is DOWN in one of the two states. -/
def waitingOps (link : Link) (grants : Nat) : State :=
  ((serving [1]).setPlane 1 { (serving [1]).plane 1 with link := link }).setPort 1
    { resetPort with
      hostList := [{ owner := .host 4, line := 7, body := .read }]
      sweepList := [{ owner := .slot 0, line := 8, body := .read }]
      hostGrants := grants }

theorem witness_IssueGrantsOne :
    ((waitingOps .down 0).plane 1).link = .down ∧
      (((waitingOps .up 3).plane 1).link = .up ∧ ((waitingOps .up 3).port 1).queue.length < 16 ∧
        ((waitingOps .up 3).port 1).hostList = { owner := .host 4, line := 7, body := .read } :: [] ∧
        ((waitingOps .up 3).port 1).hostGrants < (waitingOps .up 3).sweepShare) ∧
      (((waitingOps .up 4).plane 1).link = .up ∧
        ((waitingOps .up 4).port 1).sweepList = { owner := .slot 0, line := 8, body := .read } :: [] ∧
        (waitingOps .up 4).sweepShare ≤ ((waitingOps .up 4).port 1).hostGrants) := by decide

/-! ### Steps inside the part -/

/-- A READ waits for line 7, which is suspect and has no holder. -/
def grantDue : State :=
  { (withSuspects 8 (serving [1])).setTag 4 (.inWork (request .read (.read {}))) with
    locks := [{ line := 7, kind := none, holders := [], waiting := [{ pos := .host 4, kind := .hostRead }] }] }

/-- A READ of line 7 is held back at a free position, and no plane is ONLINE. -/
def heldDue : State :=
  ((serving []).setTag 4 (.inWork (request .read (.read {})))).setPosition 4
    { kept := none, heldBack := some { kind := .hostRead, line := 7 } }

/-- A sweep claim of line 7 is due behind the reader of line 7. -/
def sweepDue : State := (withJob .running (job .verify 7 9 0 none) reading).setSlot 1 (some { line := 3 })

theorem witness_ClaimSteps :
    ({ line := 7, kind := some .hostRead, holders := [.host 4], waiting := [] } ∈ reading.locks ∧
      (reading.locks.map LockEntry.line).Nodup) ∧
    ({ line := 7, kind := none, holders := [], waiting := [{ pos := .host 4, kind := .hostRead }] } ∈ grantDue.locks ∧
      (grantDue.locks.map LockEntry.line).Nodup ∧ holdsLine grantDue (.host 4) = false ∧
      grantDue.position 4 = { kept := none, heldBack := none } ∧
      grantDue.tag 4 = .inWork (request .read (.read {})) ∧ ∃ x ∈ grantDue.suspects, x.line = (7 : LineWord).toNat) ∧
    (linked.position 4).heldBack = none ∧
    (heldDue.position 4 = { kept := none, heldBack := some { kind := .hostRead, line := (7 : LineWord).toNat } } ∧
      lockOf heldDue.locks (7 : LineWord).toNat = none ∧ holdsLine heldDue (.host 4) = false ∧
      heldDue.tag 4 = .inWork (request .read (.read {})) ∧ (∀ x ∈ heldDue.suspects, x.line ≠ (7 : LineWord).toNat) ∧
      ∀ p, (heldDue.plane p).state ≠ .online) ∧
    linked.sweep.engine ≠ .running ∧
    (sweepDue.sweep.job = some (job .verify 7 9 0 none) ∧ sweepDue.sweep.engine = .running ∧ 7 ≤ 9 ∧
      (slotsInFlight sweepDue).length + 1 = 2 ∧ sweepDue.slot 0 = none ∧
      { line := 7, kind := some .hostRead, holders := [.host 4], waiting := [] } ∈ sweepDue.locks ∧
      (sweepDue.locks.map LockEntry.line).Nodup) := by decide +kernel

/-- An aborted rebuild with nothing left to wait for. -/
def abortDue : State := inState .syncing (withJob .aborting (job .rebuild 5 9 4 (some .abortedCommand)) (serving [1])) 2

theorem witness_EndSteps :
    (rebuildIdle.sweep.job = some (job .rebuild 5 4 4 none) ∧ rebuildIdle.sweep.engine = .running ∧
      noSlotInFlight rebuildIdle = true ∧ rebuildIdle.sweep.completions.length < 4 ∧
      4 ≤ (withCompletions 4 rebuildIdle).sweep.completions.length) ∧
    (rebuilding.sweep.job = some (job .rebuild 5 9 4 none) ∧ noSlotInFlight rebuilding = false) ∧
    (abortDue.sweep.job = some (job .rebuild 5 9 4 (some .abortedCommand)) ∧ abortDue.sweep.engine = .aborting ∧
      noSlotInFlight abortDue = true ∧ targetsDrained abortDue (job .rebuild 5 9 4 (some .abortedCommand)) = true) ∧
    (ending.sweep.engine = .ending ∧ 4 ≤ ending.sweep.completions.length) ∧
    ((withCompletions 3 ending).sweep.engine = .ending ∧ (withCompletions 3 ending).sweep.waiting = some completion ∧
      (withCompletions 3 ending).sweep.completions.length < 4) ∧
    ((detaching.plane 2).state = .detaching ∧ (detaching.port 2).isEmpty = false) ∧
    ((inState .detaching linked 2).plane 2).state = .detaching ∧ ((inState .detaching linked 2).port 2).isEmpty = true := by
  decide

/-! ### Shared operations -/

theorem witness_VoteRule :
    vote [(0, 1), (1, 1)] 0 = .agreed 1 ∧ vote [(0, 1), (1, 2), (2, 1)] 0 = .majority 1 2 ∧
      vote [(0, 1), (1, 2)] 0 = .split ∧ [((0 : PlaneId), (1 : LineData)), (1, 2)].Perm [(1, 2), (0, 1)] ∧
      (([((0 : PlaneId), (1 : LineData)), (1, 2), (2, 1)].map Prod.fst).Nodup ∧
        3 < 2 * ([((0 : PlaneId), (1 : LineData)), (1, 2), (2, 1)].filter fun c => c.2 == 1).length) := by
  exact ⟨by decide +kernel, by decide +kernel, by decide +kernel, List.Perm.swap .., by decide +kernel⟩

theorem witness_LockGrants :
    let e : LockEntry := { line := 7, kind := none, holders := [], waiting := [] }
    let read : Claim := { pos := .host 4, kind := .hostRead }
    let write : Claim := { pos := .host 5, kind := .hostWrite }
    { e with holders := [.host 4] }.holders ≠ [] ∧ (e.holders = [] ∧ e.waiting = []) ∧
      { e with waiting := [write] }.waiting = write :: [] ∧ write.kind ≠ .hostRead ∧
      { e with waiting := [read, read, write] }.waiting = read :: [read, write] ∧ read.kind = .hostRead := by decide

theorem witness_PostingAndAdding :
    ((withRecords 1 linked).log.records.getLast? = some { seq := 0x01F4, body := body .mismatch, repeats := 1 } ∧
      (body .mismatch).kind ≠ .planeFailed) ∧
    ((body .readError).kind ≠ (body .mismatch).kind ∧ (withRecords 63 linked).log.records.length < 64 ∧
      64 ≤ (withRecords 64 linked).log.records.length ∧ (withRecords 64 linked).log.mode = .keepOldest ∧
      { (withRecords 64 linked).log with mode := .keepNewest }.mode = .keepNewest) ∧
    ((∃ x ∈ (withSuspects 16 linked).suspects, x.line = 15) ∧ (∀ x ∈ (withSuspects 16 linked).suspects, x.line ≠ 16) ∧
      16 ≤ (withSuspects 16 linked).suspects.length ∧ (withSuspects 15 linked).suspects.length < 16) := by decide

end Sys2Proof.Tests
end

section
/-! PROOFS. The plane manager's commands of chapter 1: which row runs which body, what each body does by its checks, and the
statements on SERVICE_SET, GEOMETRY_SET, PLANE_ADOPT and PLANE_RELEASE. -/

namespace Sys2Proof.Machine

/-! ## Parameters -/

theorem plane?_of_toNat_eq (b : Byte) (p : PlaneId) (h : b.toNat = p.val) : plane? b = some p := by
  have hb : b.toNat < 4 := by omega
  rw [plane?, dif_pos hb]
  exact congrArg some (Fin.ext h)

theorem plane?_of_three_lt (b : Byte) (h : 3 < b.toNat) : plane? b = none := by
  rw [plane?, dif_neg (by omega)]

@[simp] theorem flag?_zero : flag? 0 = some false := rfl

@[simp] theorem flag?_one : flag? 1 = some true := rfl

theorem flag?_of_ne (b : Byte) (h0 : b ≠ 0) (h1 : b ≠ 1) : flag? b = none := by
  rw [flag?, if_neg h0, if_neg h1]

/-! ## Rows of one parameter byte that pass the frame's checks -/

theorem exec_serviceSet_ready (b : Byte) (s : State) (h : CommandReady s) :
    exec (.serviceSet [b]) s = .next (setService (flag? b) (opened 3 s)) :=
  runCommand_ready 1 [b] (setService (flag? b)) s h rfl

theorem exec_geometrySet_ready (b : Byte) (s : State) (h : CommandReady s) :
    exec (.geometrySet [b]) s = .next (setGeometry b.toNat (opened 3 s)) :=
  runCommand_ready 1 [b] (setGeometry b.toNat) s h rfl

/-- A plane command that names a plane runs its body on that plane. -/
theorem runPlaneCommand_ready (b : Byte) (p : PlaneId) (body : PlaneId → State → State) (s : State) (h : CommandReady s)
    (hp : b.toNat = p.val) : runPlaneCommand [b] body s = .next (body p (opened 3 s)) := by
  rw [runPlaneCommand, runCommand_ready 1 [b] _ s h rfl]
  simp only [List.head?_cons, Option.bind_some, plane?_of_toNat_eq b p hp]
  rfl

/-- A plane number above 3 is refused before any check of the command's own (1.5). -/
theorem runPlaneCommand_badParam (b : Byte) (body : PlaneId → State → State) (s : State) (h : CommandReady s)
    (hb : 3 < b.toNat) : runPlaneCommand [b] body s = .next (answered 3 .badParam [] s) := by
  rw [runPlaneCommand, runCommand_ready 1 [b] _ s h rfl]
  simp only [List.head?_cons, Option.bind_some, plane?_of_three_lt b hb]
  rfl

theorem exec_planeAdopt (params : List Byte) (s : State) :
    exec (.planeAdopt params) s = runPlaneCommand params adoptPlane s := rfl

theorem exec_planeRelease (params : List Byte) (s : State) :
    exec (.planeRelease params) s = runPlaneCommand params releasePlane s := rfl

/-! ## SERVICE_SET (R19) -/

theorem setService_on_of_online (s : State) (h : ∃ p, (s.plane p).state = .online) :
    setService (some true) s = postResult .done [] { s with service := .serving } := by
  have hne : ¬onlinePlanes s = 0 := fun h0 => by
    obtain ⟨p, hp⟩ := h
    exact (onlinePlanes_eq_zero s).mp h0 p hp
  simp only [setService, if_neg hne]

theorem setService_on_of_no_online (s : State) (h : ∀ p, (s.plane p).state ≠ .online) :
    setService (some true) s = refuse .noSource s := by
  have h0 : onlinePlanes s = 0 := (onlinePlanes_eq_zero s).mpr h
  simp only [setService, if_pos h0]

theorem setService_off (s : State) : setService (some false) s = postResult .done [] { s with service := .halted } := rfl

theorem setService_none (s : State) : setService none s = refuse .badParam s := rfl

/-! ## GEOMETRY_SET (R20) -/

theorem setGeometry_badParam (code : Nat) (s : State) (h : 6 < code) : setGeometry code s = refuse .badParam s := by
  rw [setGeometry, if_pos h]

theorem setGeometry_conflict (code : Nat) (s : State) (h : code ≤ 6)
    (hc : s.service = .serving ∨ (∃ p, (s.plane p).state.inService = true) ∨ s.sweep.engine ≠ .idle) :
    setGeometry code s = refuse .conflict s := by
  rw [setGeometry, if_neg (by omega), if_pos (by rwa [anyInService_iff])]

theorem setGeometry_done (code : Nat) (s : State) (h : code ≤ 6) (hs : s.service = .halted)
    (hp : ∀ p, (s.plane p).state.inService = false) (he : s.sweep.engine = .idle) :
    setGeometry code s = postResult .done [] { s with geometry := code, suspects := [] } := by
  have hc : ¬(s.service = .serving ∨ anyInService s = true ∨ s.sweep.engine ≠ .idle) := by
    simp [anyInService_iff, hs, hp, he]
  rw [setGeometry, if_neg (by omega), if_neg hc]

/-! ## PLANE_ADOPT (R11) -/

theorem adoptPlane_conflict (p : PlaneId) (s : State)
    (hc : (s.plane p).state ≠ .offline ∨ (∃ q, (s.plane q).state.inService = true) ∨ s.sweep.engine ≠ .idle) :
    adoptPlane p s = refuse .conflict s := by
  rw [adoptPlane, if_pos (by rwa [anyInService_iff])]

/-- Past the CONFLICT checks, the link alone decides. -/
theorem adoptPlane_of_free (p : PlaneId) (s : State) (ho : (s.plane p).state = .offline)
    (hq : ∀ q, (s.plane q).state.inService = false) (he : s.sweep.engine = .idle) :
    adoptPlane p s = if (s.plane p).link = .down then refuse .linkDown s
      else postResult .done [] (s.setPlane p { s.plane p with state := .online, errorCount := 0 }) := by
  have hc : ¬((s.plane p).state ≠ .offline ∨ anyInService s = true ∨ s.sweep.engine ≠ .idle) := by
    simp [anyInService_iff, ho, hq, he]
  rw [adoptPlane, if_neg hc]

/-! ## PLANE_RELEASE (R14) -/

theorem releasePlane_conflict (p : PlaneId) (s : State) (h : (s.plane p).state ≠ .failed) :
    releasePlane p s = refuse .conflict s := by
  rw [releasePlane, if_pos h]

theorem releasePlane_done (p : PlaneId) (s : State) (h : (s.plane p).state = .failed) :
    releasePlane p s = postResult .done [] (s.setPlane p { s.plane p with state := .offline, cause := none }) := by
  rw [releasePlane, if_neg (not_not_intro h)]

/-! ## The statements -/

/-- Settles O25, from the equations of the two rows' bodies, each on the state with its frame shifted through. -/
theorem serviceAndGeometry : Obligations.ServiceAndGeometry := by
  intro b s hr
  simp only [exec_serviceSet_ready _ s hr, exec_geometrySet_ready _ s hr, flag?_zero, flag?_one]
  refine ⟨fun h => ?on, fun h => ?noSource, ?off, fun h0 h1 => ?badFlag, fun h => ?badCode, fun h hc => ?conflict,
    fun h hs hp he => ?geometry⟩
  case on => exact congrArg _ (setService_on_of_online (opened 3 s) h)
  case noSource => exact congrArg _ (setService_on_of_no_online (opened 3 s) h)
  case off => exact congrArg _ (setService_off (opened 3 s))
  case badFlag => rw [flag?_of_ne b h0 h1, setService_none, refuse_opened]
  case badCode => rw [setGeometry_badParam _ _ h, refuse_opened]
  case conflict => rw [setGeometry_conflict _ (opened 3 s) h hc, refuse_opened]
  case geometry => exact congrArg _ (setGeometry_done _ (opened 3 s) h hs hp he)

/-- Settles O26: the plane number is checked for both rows at once, then each row's own checks in the manual's order. -/
theorem planeAdoptAndRelease : Obligations.PlaneAdoptAndRelease := by
  intro b s hr
  simp only [exec_planeAdopt, exec_planeRelease]
  refine ⟨fun hb => ⟨runPlaneCommand_badParam b _ s hr hb, runPlaneCommand_badParam b _ s hr hb⟩, fun p hp => ?_⟩
  simp only [runPlaneCommand_ready b p _ s hr hp]
  refine ⟨fun hc => ?adoptConflict, fun ho hq he => ?adopt, fun h => ?releaseConflict, fun h => ?release⟩
  case adoptConflict => rw [adoptPlane_conflict p (opened 3 s) hc, refuse_opened]
  case adopt =>
    rw [adoptPlane_of_free p (opened 3 s) ho hq he, opened_plane]
    refine ⟨fun hl => ?down, fun hl => ?up⟩
    case down => rw [if_pos hl, refuse_opened]
    case up => rw [if_neg (by simp [hl])]; rfl
  case releaseConflict => rw [releasePlane_conflict p (opened 3 s) h, refuse_opened]
  case release => exact congrArg _ (releasePlane_done p (opened 3 s) h)

end Sys2Proof.Machine
end

section
/-! PROOFS. Regions and indexed queries (chapter 3, R16, R129): which parameter bytes decode to which value, what REGION_SET and
the queries by index do by their parameters, and the statements on those queries, on REGION_SET and on the lookup. -/

namespace Sys2Proof.Machine

/-! ## Numbers (R183) -/

@[simp] theorem byte1_toNat (n : Nat) : (byte1 n).toNat = n % 256 := by simp [byte1]

/-- The four bytes of a number below 2^32 carry it. -/
theorem number4_bytes4 (n : Nat) (h : n < 4294967296) :
    number4 (byte1 (n / 16777216)) (byte1 (n / 65536)) (byte1 (n / 256)) (byte1 n) = n := by
  simp only [number4, byte1_toNat]
  omega

/-! ## Codes (R189): a byte decodes to a value exactly where it is the value's code -/

theorem flag?_eq_some (b : Byte) (v : Bool) : flag? b = some v ↔ b = flagByte v := by
  cases v <;> simp only [flag?, flagByte] <;> grind

theorem readMode?_eq_some (b : Byte) (m : ReadMode) : readMode? b = some m ↔ b = m.code := by
  cases m <;> simp only [readMode?, ReadMode.code] <;> grind

theorem ack?_eq_some (b : Byte) (a : WriteAck) : ack? b = some a ↔ b = a.code := by
  cases a <;> simp only [ack?, WriteAck.code] <;> grind

theorem plane?_eq_some (b : Byte) (p : PlaneId) : plane? b = some p ↔ b = byte1 p.val := by
  rw [plane?, BitVec.toNat_eq, byte1_toNat, Nat.mod_eq_of_lt (by omega)]
  split
  · simp [Fin.ext_iff]
  · simp only [reduceCtorEq, false_iff]
    omega

/-- ROTATE takes any plane byte, FIXED its own plane's alone. -/
theorem readSelect?_eq_some (select plane : Byte) (x : ReadSelect) :
    readSelect? select plane = some x ↔ select = x.code ∧ (x = .rotate ∨ plane = x.planeByte) := by
  by_cases h0 : select = 0#8
  · cases x <;> simp [readSelect?, ReadSelect.code, h0]
  by_cases h1 : select = 1#8
  · cases x <;> simp [readSelect?, ReadSelect.code, ReadSelect.planeByte, h1, plane?_eq_some]
  · cases x <;> simp [readSelect?, ReadSelect.code, h0, h1]

theorem attrs?_eq_some (mode select plane repair ack protect : Byte) (a : Attrs) :
    attrs? mode select plane repair ack protect = some a ↔
      mode = a.readMode.code ∧ repair = flagByte a.repair ∧ ack = a.ack.code ∧ protect = flagByte a.protect ∧
        select = a.readSelect.code ∧ (a.readSelect = .rotate ∨ plane = a.readSelect.planeByte) := by
  simp only [attrs?, ← readMode?_eq_some, ← flag?_eq_some, ← ack?_eq_some, ← readSelect?_eq_some, Option.bind_eq_bind,
    Option.bind_eq_some_iff, Option.pure_def, Option.some.injEq]
  constructor
  · rintro ⟨m, hm, r, hr, k, hk, p, hp, x, hx, rfl⟩
    exact ⟨hm, hr, hk, hp, hx⟩
  · rintro ⟨hm, hr, hk, hp, hx⟩
    exact ⟨_, hm, _, hr, _, hk, _, hp, _, hx, rfl⟩

theorem region?_eq_some (valid : Byte) (base limit : Nat) (a : Attrs) (r : Region) :
    region? valid base limit a = some r ↔
      valid = flagByte r.valid ∧ base ≤ limit ∧ limit ≤ Config.lastLine ∧ r.base = base ∧ r.limit = limit ∧ r.attrs = a := by
  rw [← flag?_eq_some, region?]
  cases flag? valid with
  | none => simp
  | some v => cases r; simp only; grind

theorem flagByte_toNat_le (v : Bool) : (flagByte v).toNat ≤ 1 := by cases v <;> decide

theorem ReadMode.code_toNat_le (m : ReadMode) : m.code.toNat ≤ 1 := by cases m <;> decide

theorem WriteAck.code_toNat_le (a : WriteAck) : a.code.toNat ≤ 1 := by cases a <;> decide

theorem ReadSelect.code_toNat_le (x : ReadSelect) : x.code.toNat ≤ 1 := by cases x <;> simp [code]

theorem ReadSelect.planeByte_toNat_le (x : ReadSelect) : x.planeByte.toNat ≤ 3 := by
  cases x with
  | rotate => decide
  | fixed p => rw [planeByte, byte1_toNat]; omega

/-- Checks 2 and 3 of R43: a parameter byte out of its range makes the attributes undefined. -/
theorem attrs?_eq_none (mode select plane repair ack protect : Byte)
    (h : 1 < mode.toNat ∨ 1 < select.toNat ∨ 1 < repair.toNat ∨ 1 < ack.toNat ∨ 1 < protect.toNat ∨
      (select = 1 ∧ 3 < plane.toNat)) : attrs? mode select plane repair ack protect = none := by
  rw [Option.eq_none_iff_forall_ne_some]
  intro a ha
  obtain ⟨rfl, rfl, rfl, rfl, rfl, hx⟩ := (attrs?_eq_some ..).mp ha
  have hmode := a.readMode.code_toNat_le
  have hselect := a.readSelect.code_toNat_le
  have hrepair := flagByte_toNat_le a.repair
  have hack := a.ack.code_toNat_le
  have hprotect := flagByte_toNat_le a.protect
  have hplane : ¬(a.readSelect.code = 1 ∧ 3 < plane.toNat) := by
    rintro ⟨hfixed, hlt⟩
    rcases hx with hrotate | rfl
    · simp [hrotate, ReadSelect.code] at hfixed
    · exact absurd a.readSelect.planeByte_toNat_le (by omega)
  simp only [hplane, or_false] at h
  omega

/-- Checks 4 to 6 of R43. -/
theorem region?_eq_none (valid : Byte) (base limit : Nat) (a : Attrs)
    (h : 1 < valid.toNat ∨ limit < base ∨ Config.lastLine < limit ∨ Config.lastLine < base) :
    region? valid base limit a = none := by
  rw [Option.eq_none_iff_forall_ne_some]
  intro r hr
  obtain ⟨rfl, hle, hlast, -⟩ := (region?_eq_some ..).mp hr
  have hvalid := flagByte_toNat_le r.valid
  omega

/-! ## REGION_SET (R43, R44) -/

theorem exec_regionSet_ready (params : List Byte) (s : State) (h : CommandReady s) (hl : params.length = 16) :
    exec (.regionSet params) s = .next (regionSetBody params (opened 18 s)) := by
  have hrun := runCommand_ready 16 params (regionSetBody params) s h hl
  rw [hl] at hrun
  exact hrun

theorem regionSetBody_attrs (index valid b3 b2 b1 b0 l3 l2 l1 l0 mode select plane repair ack protect : Byte) (a : Attrs)
    (s : State) (h : attrs? mode select plane repair ack protect = some a) :
    regionSetBody [index, valid, b3, b2, b1, b0, l3, l2, l1, l0, mode, select, plane, repair, ack, protect] s =
      setEntry index.toNat valid (number4 b3 b2 b1 b0) (number4 l3 l2 l1 l0) a s := by
  rw [regionSetBody, h]

theorem regionSetBody_no_attrs (index valid b3 b2 b1 b0 l3 l2 l1 l0 mode select plane repair ack protect : Byte)
    (s : State) (h : attrs? mode select plane repair ack protect = none) :
    regionSetBody [index, valid, b3, b2, b1, b0, l3, l2, l1, l0, mode, select, plane, repair, ack, protect] s =
      refuse .badParam s := by
  rw [regionSetBody, h]

theorem setEntry_region (i : Fin 8) (valid : Byte) (base limit : Nat) (a : Attrs) (r : Region) (s : State)
    (h : region? valid base limit a = some r) :
    setEntry i.val valid base limit a s = postResult .done [] (setRegion i r s) := by
  rw [setEntry, dif_pos i.isLt, h]

theorem setEntry_default (valid : Byte) (base limit : Nat) (a : Attrs) (s : State) :
    setEntry 8 valid base limit a s = postResult .done [] { s with defaultAttrs := a } := rfl

theorem setEntry_badParam (index : Nat) (valid : Byte) (base limit : Nat) (a : Attrs) (s : State)
    (h : 8 < index ∨ index < 8 ∧ region? valid base limit a = none) :
    setEntry index valid base limit a s = refuse .badParam s := by
  rcases h with h | ⟨hi, hr⟩
  · rw [setEntry, dif_neg (by omega), if_neg (by omega)]
  · rw [setEntry, dif_pos hi, hr]

/-! ## Queries by index (R16, R45, R129) -/

theorem exec_planeStatus (params : List Byte) (s : State) :
    exec (.planeStatus params) s = runPlaneCommand params (fun p s => postResult .done (planeBytes (s.plane p)) s) s := rfl

theorem exec_regionGet_ready (b : Byte) (s : State) (h : CommandReady s) :
    exec (.regionGet [b]) s = .next (getEntry b.toNat (opened 3 s)) :=
  runCommand_ready 1 [b] (getEntry b.toNat) s h rfl

theorem exec_suspectRead_ready (b : Byte) (s : State) (h : CommandReady s) :
    exec (.suspectRead [b]) s = .next (readSuspect b.toNat (opened 3 s)) :=
  runCommand_ready 1 [b] (readSuspect b.toNat) s h rfl

theorem causeCode_eq (c : Option FailCause) : causeCode c = (c.map FailCause.code).getD 0 := by cases c <;> rfl

theorem getEntry_region (i : Fin 8) (s : State) : getEntry i.val s = postResult .done (regionBytes s.regions[i]) s := by
  rw [getEntry, dif_pos i.isLt]
  rfl

/-- The default entry reads as a region with valid, base and limit 0. -/
theorem getEntry_default (s : State) :
    getEntry 8 s = postResult .done (List.replicate 9 0 ++ attrBytes s.defaultAttrs) s := by
  rw [getEntry, dif_neg (by omega), if_pos rfl]
  simp [regionBytes, bytes4, flagByte, byte1]

theorem getEntry_badParam (index : Nat) (s : State) (h : 8 < index) : getEntry index s = refuse .badParam s := by
  rw [getEntry, dif_neg (by omega), if_neg (by omega)]

theorem readSuspect_entry (index : Nat) (e : SuspectEntry) (s : State) (h : index ≤ 15) (he : s.suspects[index]? = some e) :
    readSuspect index s = postResult .done (suspectBytes e) s := by
  rw [readSuspect, if_neg (by omega), he]

theorem readSuspect_empty (index : Nat) (s : State) (h : index ≤ 15) (he : s.suspects.length ≤ index) :
    readSuspect index s = postResult .empty [] s := by
  rw [readSuspect, if_neg (by omega), List.getElem?_eq_none he]

theorem readSuspect_badParam (index : Nat) (s : State) (h : 15 < index) : readSuspect index s = refuse .badParam s := by
  rw [readSuspect, if_pos h]

/-! ## The lookup (R40, R41) -/

theorem Region.covers_iff (r : Region) (line : Nat) :
    r.covers line = true ↔ r.valid = true ∧ r.base ≤ line ∧ line ≤ r.limit := by
  simp [Region.covers, and_assoc]

theorem lookupRegion_lowest (s : State) (line : Nat) (i : Fin 8) (hi : s.regions[i].covers line = true)
    (hlow : ∀ k : Fin 8, k < i → s.regions[k].covers line = false) :
    lookupRegion s line = { index := i.castSucc, attrs := s.regions[i].attrs } := by
  have hfind : (List.finRange 8).find? (fun k => s.regions[k].covers line) = some i := by
    rw [List.find?_eq_some_iff_getElem]
    refine ⟨hi, i.val, by simp, by simp, fun k hk => ?_⟩
    simpa using hlow ⟨k, by omega⟩ hk
  rw [lookupRegion, hfind]

theorem lookupRegion_default (s : State) (line : Nat) (h : ∀ i : Fin 8, s.regions[i].covers line = false) :
    lookupRegion s line = { index := 8, attrs := s.defaultAttrs } := by
  have hfind : (List.finRange 8).find? (fun k => s.regions[k].covers line) = none :=
    List.find?_eq_none.mpr fun i _ => Bool.eq_false_iff.mp (h i)
  rw [lookupRegion, hfind]

/-! ## The statements -/

/-- Settles O22, from what each query answers on the state with its frame shifted through. -/
theorem indexedQueries : Obligations.IndexedQueries := by
  intro b s hr
  simp only [exec_planeStatus, exec_regionGet_ready b s hr, exec_suspectRead_ready b s hr]
  refine ⟨fun p hp => ?plane, fun h => ?noPlane, fun i hi => ?region, fun h => ?default, fun h => ?noRegion,
    fun e h he => ?suspect, fun h he => ?noSuspect, fun h => ?badPosition⟩
  case plane =>
    rw [runPlaneCommand_ready b p _ s hr hp, postResult_opened, opened_plane, planeBytes, causeCode_eq]
  case noPlane => exact runPlaneCommand_badParam b _ s hr h
  case region => rw [hi, getEntry_region, postResult_opened, opened_regions, regionBytes]
  case default => rw [h]; exact congrArg _ (getEntry_default (opened 3 s))
  case noRegion => rw [getEntry_badParam _ _ h, refuse_opened]
  case suspect => exact congrArg _ (readSuspect_entry _ e (opened 3 s) h he)
  case noSuspect => exact congrArg _ (readSuspect_empty _ (opened 3 s) h he)
  case badPosition => rw [readSuspect_badParam _ _ h, refuse_opened]

/-- Settles O28: codes decode to the values they stand for, so an entry is stored as it was encoded; a byte or a range out of
bounds is no value's code, so decoding fails. -/
theorem regionSetAnswers : Obligations.RegionSetAnswers := by
  intro s hr
  refine ⟨fun i v base limit a plane hle hlast hx => ?region, fun ignored a plane hlen hx => ?default, ?refused⟩
  case region =>
    have ha := (attrs?_eq_some _ _ plane _ _ _ a).mpr ⟨rfl, rfl, rfl, rfl, rfl, hx⟩
    have hregion : region? (flagByte v) base limit a = some { valid := v, base := base, limit := limit, attrs := a } :=
      (region?_eq_some ..).mpr ⟨rfl, hle, hlast, rfl, rfl, rfl⟩
    have hi : (byte1 i.val).toNat = i.val := by rw [byte1_toNat]; omega
    rw [exec_regionSet_ready _ s hr rfl]
    simp only [bytes4, List.cons_append, List.nil_append]
    rw [regionSetBody_attrs _ _ _ _ _ _ _ _ _ _ _ _ _ _ _ _ a _ ha, number4_bytes4 base (by omega),
      number4_bytes4 limit (by omega), hi, setEntry_region i _ _ _ _ _ _ hregion]
    rfl
  case default =>
    have ha := (attrs?_eq_some _ _ plane _ _ _ a).mpr ⟨rfl, rfl, rfl, rfl, rfl, hx⟩
    match ignored, hlen with
    | [_, _, _, _, _, _, _, _, _], _ =>
      rw [exec_regionSet_ready _ s hr rfl]
      simp only [List.cons_append, List.nil_append]
      rw [regionSetBody_attrs 8 _ _ _ _ _ _ _ _ _ _ _ _ _ _ _ a _ ha, show (8 : Byte).toNat = 8 from rfl,
        setEntry_default]
      rfl
  case refused =>
    intro index valid b3 b2 b1 b0 l3 l2 l1 l0 mode select plane repair ack protect hbad
    rw [exec_regionSet_ready _ s hr rfl, ← refuse_opened]
    cases ha : attrs? mode select plane repair ack protect with
    | none => rw [regionSetBody_no_attrs _ _ _ _ _ _ _ _ _ _ _ _ _ _ _ _ _ ha]
    | some a =>
      have hchecks := mt (attrs?_eq_none mode select plane repair ack protect) (by simp [ha])
      simp only [not_or] at hchecks
      obtain ⟨hmode, hselect, hrepair, hack, hprotect, hplane⟩ := hchecks
      simp only [hmode, hselect, hrepair, hack, hprotect, hplane, false_or] at hbad
      rw [regionSetBody_attrs _ _ _ _ _ _ _ _ _ _ _ _ _ _ _ _ a _ ha, setEntry_badParam]
      exact hbad.imp_right fun ⟨hi, hrange⟩ => ⟨hi, region?_eq_none _ _ _ a hrange⟩

/-- Settles O36: the search in ascending order stops at the first region that covers the line. -/
theorem regionLookup : Obligations.RegionLookup := by
  intro s line
  simp only [← Region.covers_iff, Bool.not_eq_true]
  exact ⟨lookupRegion_lowest s line, lookupRegion_default s line⟩

end Sys2Proof.Machine
end

section
/-! PROOFS. The divergence log, the suspect table and the sticky causes (chapter 7, R177, R181): what a posting and an addition do
by what they meet, what each removal does by its checks, and the statements on them. -/

namespace Sys2Proof.Machine

/-! ## Postings (R117, R118) -/

theorem merges_iff (b newest : RecBody) : merges b newest = true ↔
    b.kind = newest.kind ∧ b.origin.code = newest.origin.code ∧ b.line = newest.line ∧ b.kind ≠ .planeFailed := by
  simp [merges, sameOrigin_iff, and_assoc]

/-- A merged record is the posting, but for the seq, the planes of both and the repeat count. -/
theorem mergeInto_of_merges (b : RecBody) (d : DivRec) (h : merges b d.body = true) :
    mergeInto b d =
      { d with body := { b with planes := d.body.planes ||| b.planes }, repeats := min (d.repeats + 1) 255 } := by
  obtain ⟨hkind, -, hline, -⟩ := (merges_iff b d.body).mp h
  simp only [mergeInto, hkind, hline, Config.repeatCeiling]

theorem mergedRecords_of_merges (b : RecBody) (records : List DivRec) (d : DivRec) (hd : records.getLast? = some d)
    (h : merges b d.body = true) : mergedRecords b records = some (records.dropLast ++ [mergeInto b d]) := by
  simp only [mergedRecords, hd, if_pos h]

theorem mergedRecords_eq_none (b : RecBody) (records : List DivRec)
    (h : ∀ d ∈ records.getLast?, ¬merges b d.body = true) : mergedRecords b records = none := by
  rw [mergedRecords]
  split
  next d hd => rw [if_neg (h d hd)]
  next => rfl

theorem postRecord_of_merged (b : RecBody) (s : State) (records : List DivRec)
    (h : mergedRecords b s.log.records = some records) :
    postRecord b s = { s with log := { s.log with records := records } } := by
  rw [postRecord, h]

/-- A posting that merges into no record is accepted, and an acceptance that meets a full log sets LOG_OVERFLOW. -/
theorem postRecord_of_unmerged (b : RecBody) (s : State) (h : mergedRecords b s.log.records = none) :
    postRecord b s =
      if s.log.isFull then { s with log := s.log.accept b, sticky := s.sticky ||| causeLogOverflow }
      else { s with log := s.log.accept b } := by
  rw [postRecord, h]
  rfl

theorem DivLog.isFull_iff (l : DivLog) : l.isFull = true ↔ 64 ≤ l.records.length := decide_eq_true_iff

theorem DivLog.accept_of_not_full (b : RecBody) (l : DivLog) (h : ¬l.isFull = true) : l.accept b = l.append b := by
  rw [accept, if_neg h]

theorem DivLog.accept_keepOldest (b : RecBody) (l : DivLog) (h : l.isFull = true) (hm : l.mode = .keepOldest) :
    l.accept b = l.countOverflow := by
  rw [accept, if_pos h, hm]

theorem DivLog.accept_keepNewest (b : RecBody) (l : DivLog) (h : l.isFull = true) (hm : l.mode = .keepNewest) :
    l.accept b = DivLog.append b { l.countOverflow with records := l.records.tail } := by
  rw [accept, if_pos h, hm]

/-! ## Additions to the suspect table and removals from it (R127, R128, R130) -/

theorem suspectPut_of_line_held (e : SuspectEntry) (l : List SuspectEntry) (h : ∃ x ∈ l, x.line = e.line) :
    suspectPut e l = some (l.map fun x => if x.line = e.line then e else x) := by
  rw [suspectPut, if_pos (by simpa using h)]
  simp only [beq_iff_eq]

theorem suspectPut_of_line_free (e : SuspectEntry) (l : List SuspectEntry) (h : ∀ x ∈ l, x.line ≠ e.line) :
    suspectPut e l = if l.length < 16 then some (l ++ [e]) else none := by
  rw [suspectPut, if_neg (by simpa using h)]
  rfl

theorem addSuspect_of_put (e : SuspectEntry) (s : State) (l : List SuspectEntry) (h : suspectPut e s.suspects = some l) :
    addSuspect e s = ({ s with suspects := l }, true) := by
  rw [addSuspect, h]

theorem addSuspect_of_full (e : SuspectEntry) (s : State) (h : suspectPut e s.suspects = none) :
    addSuspect e s = ({ s with sticky := s.sticky ||| causeSuspectFull }, false) := by
  rw [addSuspect, h]
  rfl

theorem isSuspect_iff (s : State) (line : Nat) : isSuspect s line = true ↔ ∃ e ∈ s.suspects, e.line = line := by
  simp [isSuspect]

theorem clearSuspect_badParam (line : Nat) (s : State) (h : 67108863 < line) : clearSuspect line s = refuse .badParam s :=
  if_pos h

theorem clearSuspect_of_le (line : Nat) (s : State) (h : line ≤ 67108863) :
    clearSuspect line s =
      if isSuspect s line then postResult .done [] (removeSuspect line s) else postResult .notFound [] s :=
  if_neg (Nat.not_lt.mpr h)

theorem clearSuspect_of_held (line : Nat) (s : State) (h : line ≤ 67108863) (he : ∃ e ∈ s.suspects, e.line = line) :
    clearSuspect line s = postResult .done [] (removeSuspect line s) := by
  rw [clearSuspect_of_le line s h, if_pos ((isSuspect_iff s line).mpr he)]

theorem clearSuspect_notFound (line : Nat) (s : State) (h : line ≤ 67108863) (he : ∀ e ∈ s.suspects, e.line ≠ line) :
    clearSuspect line s = postResult .notFound [] s := by
  rw [clearSuspect_of_le line s h, if_neg (by simpa [isSuspect_iff] using he)]

/-! ## LOG_DROP (R122) -/

/-- Two bytes carry the number of their concatenation, most significant first (R183). -/
theorem number2_eq_toNat (hi lo : Byte) : number2 hi lo = (hi ++ lo).toNat := by
  rw [BitVec.toNat_append, ← Nat.shiftLeft_add_eq_or_of_lt lo.isLt, Nat.shiftLeft_eq]
  rfl

theorem dropRecord_empty (seq : Nat) (s : State) (h : s.log.records = []) : dropRecord seq s = postResult .empty [] s := by
  rw [dropRecord, h]

/-- With a record held, the seq of the oldest decides. -/
theorem dropRecord_of_oldest (seq : BitVec 16) (s : State) (d : DivRec) (ds : List DivRec) (h : s.log.records = d :: ds) :
    dropRecord seq.toNat s =
      if d.seq = seq then postResult .done [] { s with log := { s.log with records := ds } }
      else postResult .stale [] s := by
  simp only [dropRecord, h, BitVec.toNat_inj]

/-! ## Rows that pass the frame's checks -/

theorem exec_logDrop_ready (hi lo : Byte) (s : State) (h : CommandReady s) :
    exec (.logDrop [hi, lo]) s = .next (dropRecord (hi ++ lo).toNat (opened 4 s)) := by
  rw [← number2_eq_toNat]
  exact runCommand_ready 2 [hi, lo] (dropRecord (number2 hi lo)) s h rfl

theorem exec_logClear_ready (s : State) (h : CommandReady s) :
    exec (.logClear []) s =
      .next (postResult .done [] { opened 2 s with log := { s.log with records := [], overflow := 0 } }) :=
  runCommand_ready 0 [] _ s h rfl

theorem exec_suspectClear_ready (b3 b2 b1 b0 : Byte) (s : State) (h : CommandReady s) :
    exec (.suspectClear [b3, b2, b1, b0]) s = .next (clearSuspect (number4 b3 b2 b1 b0) (opened 6 s)) :=
  runCommand_ready 4 [b3, b2, b1, b0] (clearSuspect (number4 b3 b2 b1 b0)) s h rfl

theorem exec_suspectClear_line (line : LineWord) (s : State) (h : CommandReady s) :
    exec (.suspectClear (bytes4 line.toNat)) s = .next (clearSuspect line.toNat (opened 6 s)) := by
  rw [bytes4, exec_suspectClear_ready _ _ _ _ s h, number4_bytes4 _ line.isLt]

theorem exec_suspectClearAll_ready (s : State) (h : CommandReady s) :
    exec (.suspectClearAll []) s = .next (postResult .done [] { opened 2 s with suspects := [] }) :=
  runCommand_ready 0 [] _ s h rfl

theorem exec_alertAck_ready (b : Byte) (s : State) (h : CommandReady s) :
    exec (.alertAck [b]) s = .next (acknowledge (b.setWidth 7) (opened 3 s)) :=
  runCommand_ready 1 [b] (acknowledge (b.setWidth 7)) s h rfl

/-- What is pending after an acknowledgement: no sticky cause named, and each level cause that its condition holds up (R177). -/
theorem pendingCauses_acknowledge (named : CauseSet) (s : State) :
    pendingCauses (acknowledge named s) = (s.sticky &&& ~~~named) ||| levelCauses s := rfl

/-! ## The statements -/

/-- Settles O60: a posting merges, or is accepted by a log that has room or is full in one of its two modes; an addition finds its
line in the table, or room, or neither. -/
theorem postingAndAdding : Obligations.PostingAndAdding := by
  refine ⟨fun b s => ?postings, fun e s => ?additions⟩
  case postings =>
    simp only [← merges_iff]
    have hnone (hm : ¬∃ d ∈ s.log.records.getLast?, merges b d.body = true) : mergedRecords b s.log.records = none :=
      mergedRecords_eq_none b _ fun d hd h => hm ⟨d, hd, h⟩
    refine ⟨fun d hd hm => ?merged, fun hm hroom => ?appended, fun hm hfull hmode => ?discarded,
      fun hm hfull hmode => ?replaced⟩
    case merged =>
      obtain ⟨d', hd', hmerges⟩ := hm
      obtain rfl : d = d' := Option.some.inj (hd.symm.trans hd')
      rw [postRecord_of_merged b s _ (mergedRecords_of_merges b _ d hd hmerges), mergeInto_of_merges b d hmerges]
    case appended =>
      have hnot : ¬s.log.isFull = true := mt s.log.isFull_iff.mp (Nat.not_le.mpr hroom)
      rw [postRecord_of_unmerged b s (hnone hm), if_neg hnot, DivLog.accept_of_not_full b _ hnot]
      rfl
    case discarded =>
      have hisFull := s.log.isFull_iff.mpr hfull
      rw [postRecord_of_unmerged b s (hnone hm), if_pos hisFull, DivLog.accept_keepOldest b _ hisFull hmode]
      rfl
    case replaced =>
      have hisFull := s.log.isFull_iff.mpr hfull
      rw [postRecord_of_unmerged b s (hnone hm), if_pos hisFull, DivLog.accept_keepNewest b _ hisFull hmode]
      rfl
  case additions =>
    refine ⟨fun hheld => ?replaced, fun hfree => ⟨fun hroom => ?appended, fun hfull => ?full⟩⟩
    case replaced => exact addSuspect_of_put e s _ (suspectPut_of_line_held e _ hheld)
    case appended => exact addSuspect_of_put e s _ (by rw [suspectPut_of_line_free e _ hfree, if_pos hroom])
    case full => exact addSuspect_of_full e s (by rw [suspectPut_of_line_free e _ hfree, if_neg (Nat.not_lt.mpr hfull)])

/-- Settles O31, from what each row's body does on the state with its frame shifted through. -/
theorem suspectAndAlertRemovals : Obligations.SuspectAndAlertRemovals := by
  intro line b s hr
  simp only [exec_suspectClear_line line s hr]
  refine ⟨fun h => ?badParam, fun h he => ?removed, fun h he => ?notFound, exec_suspectClearAll_ready s hr,
    _, exec_alertAck_ready b s hr, rfl, pendingCauses_acknowledge _ (opened 3 s)⟩
  case badParam => rw [clearSuspect_badParam _ _ h, refuse_opened]
  case removed => exact congrArg _ (clearSuspect_of_held _ (opened 6 s) h he)
  case notFound => exact congrArg _ (clearSuspect_notFound _ (opened 6 s) h he)

/-- Settles O30: an empty log, else the oldest record's seq, decides what LOG_DROP does. -/
theorem logRemovals : Obligations.LogRemovals := by
  intro hi lo s hr
  simp only [exec_logDrop_ready hi lo s hr]
  refine ⟨fun h => ?empty, fun d ds h => ?held, exec_logClear_ready s hr⟩
  case empty => exact congrArg _ (dropRecord_empty _ (opened 4 s) h)
  case held =>
    rw [dropRecord_of_oldest (hi ++ lo) (opened 4 s) d ds h]
    exact ⟨fun hseq => by rw [if_pos hseq]; rfl, fun hseq => by rw [if_neg hseq, postResult_opened]⟩

end Sys2Proof.Machine
end

section
/-! PROOFS. Status queries and POLICY_GET (R113, R121, R174, R176, R180): every such row posts a payload read from the state and
touches nothing else, so each statement is about the payload's bytes. -/

namespace Sys2Proof.Machine

/-! ## Numbers (R183) -/

/-- A value of at most one byte's width takes the low one of two bytes. -/
theorem bytes2_toNat {w : Nat} (x : BitVec w) (hw : w ≤ 8) : bytes2 x.toNat = [0, x.setWidth 8] := by
  have hlt : x.toNat < 256 := x.isLt.trans_le (Nat.pow_le_pow_right (by omega) hw)
  have hhigh : byte1 (x.toNat / 256) = 0 := by rw [Nat.div_eq_of_lt hlt]; rfl
  have hlow : byte1 x.toNat = x.setWidth 8 := BitVec.ofNat_toNat 8 x
  rw [bytes2, hhigh, hlow]

/-! ## Payloads of the status queries (R113, R174) -/

theorem outcomeCode_eq (o : Option JobOutcome) : outcomeCode o = (o.map JobOutcome.code).getD 0 := by cases o <;> rfl

/-! ## POLICY_GET (R176) -/

@[simp] theorem policyValue_opened (n : Nat) (selector : Byte) (s : State) :
    policyValue selector (opened n s) = policyValue selector s := rfl

/-- Selectors above 5 name no value. -/
theorem policyValue_eq_none (selector : Byte) (s : State) (h : 5 < selector.toNat) : policyValue selector s = none := by
  unfold policyValue
  split
  case h_7 => rfl
  all_goals omega

theorem exec_policyGet_ready (selector : Byte) (s : State) (h : CommandReady s) :
    exec (.policyGet [selector]) s = .next (getPolicy selector (opened 3 s)) :=
  runCommand_ready 1 [selector] (getPolicy selector) s h rfl

theorem exec_policyGet_of_value (selector : Byte) (v : Nat) (s : State) (h : CommandReady s)
    (hv : policyValue selector s = some v) :
    exec (.policyGet [selector]) s = .next (answered 3 .done (selector :: bytes2 v) s) := by
  rw [exec_policyGet_ready selector s h, getPolicy, policyValue_opened, hv]
  rfl

theorem exec_policyGet_of_no_value (selector : Byte) (s : State) (h : CommandReady s)
    (hv : policyValue selector s = none) : exec (.policyGet [selector]) s = .next (answered 3 .badParam [] s) := by
  rw [exec_policyGet_ready selector s h, getPolicy, policyValue_opened, hv]
  rfl

/-! ## Status queries that pass the frame's checks -/

theorem exec_alertQuery_ready (s : State) (h : CommandReady s) :
    exec (.alertQuery []) s = .next (answered 2 .done [causesByte (pendingCauses s), causesByte s.alertMask] s) :=
  runCommand_ready 0 [] _ s h rfl

theorem exec_deviceQuery_ready (s : State) (h : CommandReady s) :
    exec (.deviceQuery []) s = .next (answered 2 .done (deviceBytes s) s) :=
  runCommand_ready 0 [] _ s h rfl

theorem exec_logStatus_ready (s : State) (h : CommandReady s) :
    exec (.logStatus []) s = .next (answered 2 .done (logStatusBytes s.log) s) :=
  runCommand_ready 0 [] _ s h rfl

theorem exec_sweepStatus_ready (s : State) (h : CommandReady s) :
    exec (.sweepStatus []) s = .next (answered 2 .done (s.sweep.engine.code :: jobBytes s.sweep.job) s) :=
  runCommand_ready 0 [] _ s h rfl

/-! ## The statements -/

/-- Settles O21, from the payload of each query: DEVICE_QUERY's ends by whether a protocol error is held, SWEEP_STATUS's is decided
by whether there is a job record. -/
theorem statusQueries : Obligations.StatusQueries := by
  intro s hr
  refine ⟨exec_alertQuery_ready s hr, ?device, exec_logStatus_ready s hr, fun hj => ?noJob, fun j hj => ?job⟩
  case device =>
    rw [exec_deviceQuery_ready s hr, deviceBytes]
    cases s.protoErr with
    | none => rfl
    | some e => rfl
  case noJob => rw [exec_sweepStatus_ready s hr, hj, jobBytes]
  case job => rw [exec_sweepStatus_ready s hr, hj, jobBytes, outcomeCode_eq]; rfl

/-- Settles O23, from the value each selector names; LOG_MODE and the alert mask fit the low one of the two bytes. -/
theorem policyGetAnswers : Obligations.PolicyGetAnswers := by
  intro s hr
  refine ⟨exec_policyGet_of_value 0 _ s hr rfl, exec_policyGet_of_value 1 _ s hr rfl, exec_policyGet_of_value 2 _ s hr rfl,
    ?logMode, exec_policyGet_of_value 4 _ s hr rfl, ?alertMask,
    fun b hb => exec_policyGet_of_no_value b s hr (policyValue_eq_none b s hb)⟩
  case logMode => rw [exec_policyGet_of_value 3 _ s hr rfl, bytes2_toNat _ le_rfl, BitVec.setWidth_eq]
  case alertMask => rw [exec_policyGet_of_value 5 _ s hr rfl, bytes2_toNat _ (by omega)]

end Sys2Proof.Machine
end

section
/-! PROOFS. What the blocks of an event can write: one kind of change for each shared operation, and for each block the changes it is
made of and the acts it brings. A property that every kind of change keeps, every block keeps. -/

namespace Sys2Proof.Machine

/-! ## Kinds of change -/

/-- The port with an op at the tail of its host-side or sweep list, by the op's owner (R146). -/
def Port.enlist (op : Op) (q : Port) : Port :=
  match op.owner with
  | .host _ => { q with hostList := q.hostList ++ [op] }
  | .slot _ => { q with sweepList := q.sweepList ++ [op] }

theorem placeOp_eq (op : Op) (s : State) (p : PlaneId) :
    placeOp op s p = arbitrate p (s.setPort p ((s.port p).enlist op)) := by
  unfold placeOp Port.enlist
  cases op.owner <;> rfl

/-- The job with other counts, each that has a ceiling still within it (R87). -/
def Job.Recounts (j j' : Job) : Prop :=
  j' = { j with linesDone := j'.linesDone, mismatches := j'.mismatches, errors := j'.errors } ∧
    (j.mismatches ≤ Config.countCeiling → j'.mismatches ≤ Config.countCeiling) ∧
    (j.errors ≤ Config.countCeiling → j'.errors ≤ Config.countCeiling)

/-- The planes an op is placed on: those ONLINE, and those SYNCING (R51, R95, R96). -/
def TakesOps (s : State) (p : PlaneId) : Prop := (s.plane p).state = .online ∨ (s.plane p).state = .syncing

/-- One change that a block of an event makes. -/
inductive Touch (s : State) : State → Prop
  /-- The record of the request at a host position changes; its kind stays. -/
  | request (t : Tag) (r k : Request) (hk : requestAt s t = some k) (hr : r.kind = k.kind) : Touch s (setRequest t r s)
  | produce (t : Tag) (st : Status) (d : LineData) : Touch s (produce t st d s)
  | post (b : RecBody) : Touch s (postRecord b s)
  | suspect (e : SuspectEntry) : Touch s (addSuspect e s).1
  | unsuspect (line : Nat) : Touch s (removeSuspect line s)
  | rotate (p : PlaneId) : Touch s { s with rotation := p }
  | enlist (p : PlaneId) (op : Op) (h : TakesOps s p) : Touch s (s.setPort p ((s.port p).enlist op))
  | grant (p : PlaneId) (u : State) (h : grantOp p s = some u) : Touch s u
  /-- The work of a slot in flight changes. -/
  | slot (k : SlotId) (w : SlotWork) (h : (s.slot k).isSome = true) : Touch s (s.setSlot k (some w))
  | count (j j' : Job) (hj : s.sweep.job = some j) (h : j.Recounts j') : Touch s (s.setJob j')
  | abort (o : JobOutcome) : Touch s (enterAborting o s)

/-- A run of changes. -/
abbrev Touches : State → State → Prop := Relation.ReflTransGen Touch

theorem Touch.many {s t : State} (h : Touch s t) : Touches s t := .single h

/-- What every change keeps, a run of changes keeps. -/
theorem Touches.keeps {P : State → Prop} (h : ∀ s t, Touch s t → P s → P t) {s t : State} (hst : Touches s t) (hs : P s) : P t := by
  induction hst with
  | refl => exact hs
  | tail _ hab ih => exact h _ _ hab ih

/-- A relation that every change is in, and that chains, holds along a run of changes. -/
theorem Touches.rel {R : State → State → Prop} (refl : ∀ s, R s s) (trans : ∀ s t u, R s t → R t u → R s u)
    (h : ∀ s t, Touch s t → R s t) {s t : State} (hst : Touches s t) : R s t := by
  induction hst with
  | refl => exact refl _
  | tail _ hab ih => exact trans _ _ _ ih (h _ _ hab)

theorem Touches.ite {c : Prop} [Decidable c] {s a b : State} (ha : Touches s a) (hb : Touches s b) : Touches s (if c then a else b) := by
  split
  · exact ha
  · exact hb

/-! ## Requests at their positions -/

/-- The position has a request, of this kind. -/
def KindAt (s : State) (t : Tag) (kind : ReqKind) : Prop := ∃ k, requestAt s t = some k ∧ k.kind = kind

theorem KindAt.of_requestAt {s : State} {t : Tag} {r : Request} (h : requestAt s t = some r) : KindAt s t r.kind := ⟨r, h, rfl⟩

theorem Touch.request_of {s : State} {t : Tag} (r : Request) (h : KindAt s t r.kind) : Touches s (setRequest t r s) := by
  obtain ⟨k, hk, hkind⟩ := h
  exact (Touch.request t r k hk hkind.symm).many

/-- A response produced leaves the kind of request at each position. -/
theorem KindAt.produce {s : State} {t : Tag} {kind : ReqKind} (st : Status) (d : LineData) (h : KindAt s t kind) :
    KindAt (produce t st d s) t kind := by
  obtain ⟨k, hk, hkind⟩ := h
  rcases produce_cases t st d s with ⟨r, hr, he⟩ | ⟨-, he⟩
  · rw [he]
    unfold requestAt at hk
    cases hp : (s.position t).kept with
    | some r' =>
      rw [hp] at hk
      refine ⟨k, ?_, hkind⟩
      show (match (s.position t).kept with | some r => some r | none => _) = some k
      rw [hp]
      exact hk
    | none =>
      simp only [hp, hr, TagEntry.request, Option.some.injEq] at hk
      subst hk
      refine ⟨r.answered st, ?_, hkind⟩
      show (match (s.position t).kept with
        | some r => some r
        | none => ((s.setTag t (.queued (r.answered st) st)).tag t).request) = some (r.answered st)
      rw [hp, State.setTag_tag_same]
      rfl
  · rw [he]
    exact ⟨k, hk, hkind⟩

/-! ## Placing ops -/

theorem touches_grantOps (n : Nat) (p : PlaneId) (s : State) : Touches s (grantOps n p s) :=
  grantOps_keeps (Touches s) p (fun _ _ h hg => h.tail (.grant p _ hg)) n s .refl

theorem touches_arbitrate (p : PlaneId) (s : State) : Touches s (arbitrate p s) := touches_grantOps _ p s

theorem touches_placeOp (op : Op) {s : State} {p : PlaneId} (h : TakesOps s p) : Touches s (placeOp op s p) := by
  rw [placeOp_eq]
  exact (Touch.enlist p op h).many.trans (touches_arbitrate p _)

theorem TakesOps.of_planes {s t : State} {p : PlaneId} (h : TakesOps s p) (hp : t.planes = s.planes) : TakesOps t p := by
  unfold TakesOps State.plane at *
  rwa [hp]

theorem placeOp_planes (op : Op) (s : State) (p : PlaneId) : (placeOp op s p).planes = s.planes := by
  obtain ⟨ports, out, h⟩ := placeOp_frame op s p
  rw [h]

theorem touches_placeOps (op : Op) {g : PlaneSet} {s : State} (h : ∀ p, inSet g p = true → TakesOps s p) :
    Touches s (placeOps op g s) := by
  have hlist : ∀ p ∈ planesOf g, TakesOps s p := fun p hp => h p ((mem_planesOf g p).mp hp)
  unfold placeOps
  generalize planesOf g = l at hlist
  induction l generalizing s with
  | nil => exact .refl
  | cons p l ih =>
    have hrest : ∀ q ∈ l, TakesOps (placeOp op s p) q := fun q hq =>
      (hlist q (List.mem_cons_of_mem _ hq)).of_planes (placeOp_planes op s p)
    exact (touches_placeOp op (hlist p List.mem_cons_self)).trans (ih (fun q hq => (h q hq).of_planes (placeOp_planes op s p)) hrest)

theorem setRequest_planes (t : Tag) (r : Request) (s : State) : (setRequest t r s).planes = s.planes := by
  rcases setRequest_cases t r s with ⟨k, -, h⟩ | ⟨-, h⟩ <;> rw [h] <;> rfl

theorem produce_planes (t : Tag) (st : Status) (d : LineData) (s : State) : (produce t st d s).planes = s.planes := by
  rcases produce_cases t st d s with ⟨r, -, h⟩ | ⟨-, h⟩
  · rw [h]; rfl
  · rw [h]

theorem takesOps_onlinePlanes (s : State) (p : PlaneId) (h : inSet (onlinePlanes s) p = true) : TakesOps s p :=
  .inl (by simpa using h)

theorem takesOps_writeSet (s : State) (line : Nat) (p : PlaneId) (h : inSet (writeSet s line) p = true) : TakesOps s p := by
  unfold writeSet at h
  simp only [inSet_planesWhere, Bool.or_eq_true, Bool.and_eq_true, beq_iff_eq] at h
  exact h.imp id And.left

theorem takesOps_syncingTargets (s : State) (j : Job) (p : PlaneId) (h : inSet (syncingTargets s j) p = true) : TakesOps s p := by
  unfold syncingTargets at h
  simp only [inSet_and, inSet_planesIn, Bool.and_eq_true, beq_iff_eq] at h
  exact .inr h.2

theorem takesOps_repairPlanes (s : State) (r : Request) (st : Status) (g : PlaneSet) (p : PlaneId)
    (h : inSet (repairPlanes s r st g) p = true) : TakesOps s p := by
  unfold repairPlanes at h
  split at h
  · rw [inSet_and, Bool.and_eq_true] at h
    exact takesOps_onlinePlanes s p h.2
  · rw [show (0 : PlaneSet) = 0#4 from rfl, inSet_zero] at h
    cases h

theorem takesOps_scrubPlanes (s : State) (j : Job) (g : PlaneSet) (p : PlaneId) (h : inSet (scrubPlanes s j g) p = true) :
    TakesOps s p := by
  unfold scrubPlanes at h
  split at h
  · rw [inSet_and, Bool.and_eq_true] at h
    exact takesOps_onlinePlanes s p h.2
  · rw [show (0 : PlaneSet) = 0#4 from rfl, inSet_zero] at h
    cases h

/-! ## Blocks -/

/-- The acts that bring a position's work on a line to its end (R28, R29, R94). -/
def endActs : Claimant → List Act
  | .host t => [.release (.host t)]
  | .slot k => [.release (.slot k), .sweepPlace, .sweepTest]

/-- A block's effect at a position: a run of changes, and the end of the position's work or no act. -/
structure Does (pos : Claimant) (s : State) (e : Effect) : Prop where
  touches : Touches s e.1
  acts : e.2 = [] ∨ e.2 = endActs pos

theorem Does.after {pos : Claimant} {s t : State} {e : Effect} (h : Does pos t e) (hst : Touches s t) : Does pos s e :=
  ⟨hst.trans h.touches, h.acts⟩

theorem does_nothing (pos : Claimant) (s : State) : Does pos s (s, []) := ⟨.refl, .inl rfl⟩

/-- A block that goes on waiting. -/
theorem Does.waits {pos : Claimant} {s t : State} (h : Touches s t) : Does pos s (t, []) := ⟨h, .inl rfl⟩

/-- A host block that releases its line. -/
theorem Does.releases {t : Tag} {s u : State} (h : Touches s u) : Does (.host t) s (u, [.release (.host t)]) := ⟨h, .inr rfl⟩

/-- A host block that releases its line under a condition. -/
theorem Does.releasesIf {t : Tag} {s u : State} {c : Prop} [Decidable c] (h : Touches s u) :
    Does (.host t) s (u, if c then [.release (.host t)] else []) := by
  split
  · exact .releases h
  · exact .waits h

theorem does_startWrite (t : Tag) (r : Request) (w : WriteRec) (s : State) (h : KindAt s t r.kind) :
    Does (.host t) s (startWrite t r w s) := by
  have hset := fun w' => Touch.request_of (r.withWrite w') h
  unfold startWrite
  dsimp only
  split
  · exact .releases ((hset _).tail (.produce ..))
  · split
    · exact .releases ((hset _).tail (.produce ..))
    · exact .waits ((hset _).trans (touches_placeOps _ fun p hp => (takesOps_writeSet s r.line p hp).of_planes (setRequest_planes ..)))

theorem touches_answerWrite (t : Tag) (r : Request) (w : WriteRec) (e : OpEnd) (s : State) : Touches s (answerWrite t r w e s) := by
  unfold answerWrite
  split
  · split
    · exact (Touch.produce ..).many
    · exact .refl
  · exact .refl

theorem does_endWrite (t : Tag) (r : Request) (w : WriteRec) (p : PlaneId) (e : OpEnd) (s : State) (h : KindAt s t r.kind) :
    Does (.host t) s (endWrite t r w p e s) := by
  have hset := fun w' => Touch.request_of (r.withWrite w') h
  unfold endWrite
  dsimp only
  have hremoved := fun w' => Touches.ite (c := removesSuspect w e = true) ((hset w').tail (.unsuspect r.line)) (hset w')
  exact .releasesIf ((Touches.ite (hremoved _) ((hremoved _).tail (.post _))).trans (touches_answerWrite ..))

theorem does_serve (t : Tag) (r : Request) (x : ReadRec) (d : LineData) (st : Status) (kind : RecKind) (planes : PlaneSet)
    (s : State) (h : KindAt s t r.kind) : Does (.host t) s (serve t r x d st kind planes s) := by
  unfold serve
  dsimp only
  have hwritten := fun x' op => ((Touch.produce (s := s) t st d).many.trans
    (Touch.request_of (r.withRead x') (h.produce st d))).trans (touches_placeOps op fun p hp =>
      (takesOps_repairPlanes s r st planes p hp).of_planes ((setRequest_planes ..).trans (produce_planes ..)))
  exact .releasesIf (Touches.ite (hwritten ..) ((hwritten ..).tail (.post _)))

theorem does_poison (t : Tag) (r : Request) (x : ReadRec) (reason : SuspectReason) (g : PlaneSet) (kind : RecKind)
    (planes : PlaneSet) (s : State) (h : KindAt s t r.kind) : Does (.host t) s (poison t r x reason g kind planes s) := by
  unfold poison
  dsimp only
  exact .releases ((((Touch.produce ..).many.trans (Touch.request_of (r.withRead _) (h.produce ..))).tail (.suspect _)).tail (.post _))

theorem does_readNoPlane (t : Tag) (s : State) : Does (.host t) s (readNoPlane t s) := .releases (Touch.produce ..).many

theorem touches_askPlane (t : Tag) (r : Request) (x : ReadRec) (p : PlaneId) (s : State) (h : KindAt s t r.kind) (hp : TakesOps s p) :
    Touches s (askPlane t r x p s) := (Touch.request_of (r.withRead _) h).trans (touches_placeOp _ (hp.of_planes (setRequest_planes ..)))

theorem firstPlane_mem {s : State} {select : ReadSelect} {g : PlaneSet} {p : PlaneId} (h : firstPlane s select g = some p) :
    inSet g p = true := by
  unfold firstPlane at h
  split at h
  · split at h
    · next hq => cases h; exact hq
    · exact ((lowestPlane_eq_some _ _).mp h).1
  · exact ((nextPlane_eq_some _ _ _).mp h).1

theorem rotateTo_planes (select : ReadSelect) (p : PlaneId) (s : State) : (rotateTo select p s).planes = s.planes := by
  cases select <;> rfl

theorem touches_rotateTo (select : ReadSelect) (p : PlaneId) (s : State) : Touches s (rotateTo select p s) := by
  cases select with
  | rotate => exact (Touch.rotate p).many
  | fixed q => exact .refl

theorem KindAt.rotateTo {s : State} {t : Tag} {kind : ReqKind} (select : ReadSelect) (p : PlaneId) (h : KindAt s t kind) :
    KindAt (rotateTo select p s) t kind := by
  cases select <;> exact h

theorem does_startRead (t : Tag) (r : Request) (x : ReadRec) (s : State) (h : KindAt s t r.kind) :
    Does (.host t) s (startRead t r x s) := by
  have hset := fun x' => Touch.request_of (r.withRead x') h
  unfold startRead
  dsimp only
  split
  · exact .releases (Touch.produce ..).many
  · split
    · exact (does_readNoPlane t _).after (hset _)
    · split
      · split
        · next p hp =>
          have htakes := (takesOps_onlinePlanes s p (firstPlane_mem hp)).of_planes (rotateTo_planes r.attrs.readSelect p s)
          exact .waits ((touches_rotateTo ..).trans (touches_askPlane _ _ _ _ _ (h.rotateTo ..) htakes))
        · exact (does_readNoPlane t _).after (hset _)
      · exact .waits ((hset _).trans (touches_placeOps _ fun p hp => (takesOps_onlinePlanes s p hp).of_planes (setRequest_planes ..)))

theorem does_failOver (t : Tag) (r : Request) (x : ReadRec) (p : PlaneId) (s : State) (h : KindAt s t r.kind) :
    Does (.host t) s (failOver t r x p s) := by
  unfold failOver
  split
  · next q hq =>
    have hmem := ((nextPlane_eq_some _ _ _).mp hq).1
    simp only [inSet_lessPlanes, inSet_and, Bool.and_eq_true] at hmem
    exact .waits (touches_askPlane _ _ _ _ _ h (takesOps_onlinePlanes s q hmem.1.2))
  · split
    · exact (does_readNoPlane t _).after (Touch.request_of (r.withRead x) h)
    · exact does_poison _ _ _ _ _ _ _ _ h

theorem does_settleCompare (t : Tag) (r : Request) (x : ReadRec) (s : State) (h : KindAt s t r.kind) :
    Does (.host t) s (settleCompare t r x s) := by
  unfold settleCompare
  split
  · exact (does_readNoPlane t _).after (Touch.request_of (r.withRead x) h)
  · exact does_poison _ _ _ _ _ _ _ _ h
  · exact does_serve _ _ _ _ _ _ _ _ h
  · exact does_serve _ _ _ _ _ _ _ _ h
  · exact does_poison _ _ _ _ _ _ _ _ h

theorem touches_postPending (t : Tag) (r : Request) (x : ReadRec) (s : State) : Touches s (postPending t r x s) := by
  unfold postPending
  split
  · exact (Touch.post _).many
  · exact .refl

theorem does_endSingle (t : Tag) (r : Request) (x : ReadRec) (p : PlaneId) (e : OpEnd) (s : State) (h : KindAt s t r.kind) :
    Does (.host t) s (endSingle t r x p e s) := by
  unfold endSingle
  split
  · exact does_serve _ _ _ _ _ _ _ _ h
  · exact does_failOver _ _ _ _ _ h

theorem does_endRead (t : Tag) (r : Request) (x : ReadRec) (p : PlaneId) (e : OpEnd) (s : State) (h : KindAt s t r.kind) :
    Does (.host t) s (endRead t r x p e s) := by
  have hset := fun x' => Touch.request_of (r.withRead x') h
  unfold endRead
  dsimp only
  split
  · split
    · exact .releases ((hset _).trans (touches_postPending ..))
    · exact .waits (hset _)
  · split
    · exact does_endSingle _ _ _ _ _ _ h
    · split
      · exact does_settleCompare _ _ _ _ h
      · exact .waits (hset _)

theorem does_endRepair (t : Tag) (r : Request) (x : ReadRec) (p : PlaneId) (s : State) (h : KindAt s t r.kind) :
    Does (.host t) s (endRepair t r x p s) := .releasesIf (Touch.request_of (r.withRead _) h)

/-! ## Blocks of the sweep engine -/

theorem Job.Recounts.refl (j : Job) : j.Recounts j := ⟨rfl, fun h => h, fun h => h⟩

theorem countUp_le (n : Nat) : countUp n ≤ Config.countCeiling := Nat.min_le_right ..

theorem Job.recounts_countError (w : SlotWork) (j : Job) (e : OpEnd) : j.Recounts (countError w j e) := by
  unfold countError
  split
  · exact ⟨rfl, fun h => h, fun _ => countUp_le _⟩
  · exact .refl j

theorem does_finishLine (k : SlotId) (completed : Bool) (s : State) : Does (.slot k) s (finishLine k completed s) := by
  refine ⟨?_, .inr rfl⟩
  unfold finishLine
  dsimp only
  split
  · split
    · next j hj => exact (Touch.count j { j with linesDone := j.linesDone + 1 } hj ⟨rfl, id, id⟩).many
    · exact .refl
  · exact .refl

theorem touches_setSlot {s : State} {k : SlotId} (w : SlotWork) (h : (s.slot k).isSome = true) : Touches s (s.setSlot k (some w)) :=
  (Touch.slot k w h).many

theorem does_writeTargets (k : SlotId) (w : SlotWork) (j : Job) (d : LineData) (s : State) (h : (s.slot k).isSome = true) :
    Does (.slot k) s (writeTargets k w j d s) := by
  unfold writeTargets
  dsimp only
  split
  · exact (does_finishLine ..).after (touches_setSlot w h)
  · exact .waits ((touches_setSlot _ h).trans (touches_placeOps _ fun p hp => takesOps_syncingTargets s j p hp))

theorem does_noGoodSource (k : SlotId) (w : SlotWork) (j : Job) (s : State) (h : (s.slot k).isSome = true) :
    Does (.slot k) s (noGoodSource k w j s) := by
  unfold noGoodSource
  dsimp only
  have hposted := fun b => ((touches_setSlot w h).tail (.suspect { line := w.line, reason := .noGoodCopy, planes := w.erred })).tail
    (.post b)
  exact (does_finishLine ..).after (Touches.ite (hposted _) ((hposted _).tail (.abort _)))

theorem does_chooseSource (k : SlotId) (w : SlotWork) (j : Job) (s : State) (h : (s.slot k).isSome = true) :
    Does (.slot k) s (chooseSource k w j s) := by
  unfold chooseSource
  split
  · next p hp =>
    have hmem := ((lowestPlane_eq_some _ _).mp hp).1
    simp only [inSet_lessPlanes, Bool.and_eq_true] at hmem
    exact .waits ((touches_setSlot _ h).trans (touches_placeOp _ (takesOps_onlinePlanes s p hmem.1)))
  · split
    · exact (does_finishLine ..).after (touches_setSlot w h)
    · exact does_noGoodSource k w j s h

@[simp] theorem postRecord_slot (b : RecBody) (s : State) (k : SlotId) : (postRecord b s).slot k = s.slot k := by
  rw [postRecord_frame]; rfl

theorem does_copyArrived (k : SlotId) (w : SlotWork) (j : Job) (d : LineData) (s : State) (h : (s.slot k).isSome = true) :
    Does (.slot k) s (copyArrived k w j d s) := by
  unfold copyArrived
  dsimp only
  split
  · exact does_writeTargets k w j d s h
  · exact (does_writeTargets k w j d _ (by simpa using h)).after (Touch.post _).many

theorem does_settleAgreed (k : SlotId) (w : SlotWork) (j : Job) (d : LineData) (kind : RecKind) (planes : PlaneSet)
    (s : State) (h : (s.slot k).isSome = true) : Does (.slot k) s (settleAgreed k w j d kind planes s) := by
  unfold settleAgreed
  dsimp only
  have hwritten := fun w' op => (touches_setSlot w' h).trans (touches_placeOps op fun p hp => takesOps_scrubPlanes s j planes p hp)
  split
  · exact (does_finishLine ..).after (Touches.ite (hwritten ..) ((hwritten ..).tail (.post _)))
  · exact .waits (Touches.ite (hwritten ..) ((hwritten ..).tail (.post _)))

theorem does_settleDistrusted (k : SlotId) (w : SlotWork) (j : Job) (reason : SuspectReason) (g : PlaneSet) (kind : RecKind)
    (planes : PlaneSet) (s : State) (h : (s.slot k).isSome = true) :
    Does (.slot k) s (settleDistrusted k w j reason g kind planes s) := by
  unfold settleDistrusted
  dsimp only
  split
  · exact (does_finishLine ..).after (((touches_setSlot w h).tail (.suspect _)).tail (.post _))
  · exact (does_finishLine ..).after ((touches_setSlot w h).tail (.post _))

theorem touches_countMismatch (s : State) : Touches s (countMismatch s) := by
  unfold countMismatch
  split
  · next j hj => exact (Touch.count j { j with mismatches := countUp j.mismatches } hj ⟨rfl, fun _ => countUp_le _, id⟩).many
  · exact .refl

@[simp] theorem countMismatch_slot (s : State) (k : SlotId) : (countMismatch s).slot k = s.slot k := by
  unfold countMismatch
  split <;> rfl

theorem does_settleVote (k : SlotId) (w : SlotWork) (j : Job) (s : State) (h : (s.slot k).isSome = true) :
    Does (.slot k) s (settleVote k w j s) := by
  have hcounted : ((countMismatch s).slot k).isSome = true := by simpa using h
  unfold settleVote
  split
  · exact (does_finishLine ..).after (touches_setSlot w h)
  · exact does_settleDistrusted _ _ _ _ _ _ _ _ h
  · exact does_settleAgreed _ _ _ _ _ _ _ h
  · exact (does_settleAgreed _ _ _ _ _ _ _ hcounted).after (touches_countMismatch s)
  · exact (does_settleDistrusted _ _ _ _ _ _ _ _ hcounted).after (touches_countMismatch s)

theorem does_startCompare (k : SlotId) (w : SlotWork) (s : State) (h : (s.slot k).isSome = true) :
    Does (.slot k) s (startCompare k w s) := by
  unfold startCompare
  dsimp only
  split
  · exact does_finishLine ..
  · split
    · exact does_finishLine ..
    · exact .waits ((touches_setSlot _ h).trans (touches_placeOps _ fun p hp => takesOps_onlinePlanes s p hp))

theorem does_startSlot (k : SlotId) (s : State) : Does (.slot k) s (startSlot k s) := by
  unfold startSlot
  split
  · next w j hw hj =>
    have h : (s.slot k).isSome = true := by simp [hw]
    split
    · split
      · exact does_finishLine ..
      · exact does_chooseSource k w j s h
    · exact does_writeTargets k w j _ s h
    · exact does_startCompare k w s h
    · exact does_startCompare k w s h
  · exact does_nothing ..

theorem does_endSlotRead (k : SlotId) (w : SlotWork) (j : Job) (p : PlaneId) (e : OpEnd) (s : State)
    (h : (s.slot k).isSome = true) (hj : s.sweep.job = some j) : Does (.slot k) s (endSlotRead k w j p e s) := by
  have hcounted : Touches s (s.setJob (countError w j e)) := (Touch.count j _ hj (j.recounts_countError w e)).many
  have hslot : ((s.setJob (countError w j e)).slot k).isSome = true := h
  unfold endSlotRead
  dsimp only
  split
  case h_1 | h_2 =>
    split
    · exact (does_copyArrived k _ _ _ _ hslot).after hcounted
    · exact (does_chooseSource k _ _ _ hslot).after hcounted
  case h_3 | h_4 =>
    split
    · exact (does_settleVote k _ _ _ hslot).after hcounted
    · exact .waits (hcounted.trans (touches_setSlot _ hslot))

theorem does_endSlotWrite (k : SlotId) (w : SlotWork) (j : Job) (p : PlaneId) (e : OpEnd) (s : State)
    (h : (s.slot k).isSome = true) : Does (.slot k) s (endSlotWrite k w j p e s) := by
  unfold endSlotWrite
  dsimp only
  split
  · exact (does_finishLine ..).after (touches_setSlot _ h)
  · exact .waits (touches_setSlot _ h)

/-! ## Acts -/

/-- An op's end reaches its owner in a run of changes. -/
theorem does_deliverEnd (op : Op) (p : PlaneId) (e : OpEnd) (s : State) : Does op.owner s (deliverEnd op p e s) := by
  unfold deliverEnd
  split
  · next t ht =>
    rw [ht]
    split
    · next r hr =>
      have h := KindAt.of_requestAt hr
      split
      · exact does_endWrite _ _ _ _ _ _ h
      · exact does_endRead _ _ _ _ _ _ h
      · exact does_endRepair _ _ _ _ _ h
      · exact does_nothing ..
    · exact does_nothing ..
  · next k hk =>
    rw [hk]
    split
    · next w j hw hj =>
      split
      · exact does_endSlotRead _ _ _ _ _ _ (by simp [hw]) hj
      · exact does_endSlotWrite _ _ _ _ _ _ (by simp [hw])
    · exact does_nothing ..

/-- A grant begins its owner's work in a run of changes. -/
theorem does_startWork (pos : Claimant) (s : State) : Does pos s (startWork pos s) := by
  unfold startWork
  split
  · split
    · next r hr =>
      have h := KindAt.of_requestAt hr
      split
      · exact does_startWrite _ _ _ _ h
      · exact does_startRead _ _ _ _ h
      · exact does_nothing ..
    · exact does_nothing ..
  · exact does_startSlot ..

/-- One act keeps what the changes of a block keep and what the five acts of the lock table and the engine keep. -/
theorem perform_keeps (P : State → Prop) (htouch : ∀ s t, Touch s t → P s → P t)
    (hrelease : ∀ pos s, P s → P (releaseLine pos s).1) (hplace : ∀ pos kind line s, P s → P (placeClaim pos kind line s).1)
    (hheld : ∀ t s, P s → P (placeHeldBack t s).1) (hnext : ∀ s, P s → P (placeNext s).1) (hcomplete : ∀ s, P s → P (completeJob s))
    (a : Act) (s : State) (hs : P s) : P (perform a s).1 := by
  cases a with
  | deliver op p e => exact (does_deliverEnd op p e s).touches.keeps htouch hs
  | start pos => exact (does_startWork pos s).touches.keeps htouch hs
  | release pos => exact hrelease pos s hs
  | place pos kind line => exact hplace pos kind line s hs
  | placeHeld t => exact hheld t s hs
  | sweepPlace => exact hnext s hs
  | sweepTest => exact hcomplete s hs

end Sys2Proof.Machine
end

section
/-! PROOFS. The end of an event's acts (R36, R147, log entry 23): a weight that every act lowers, so that the model's bound leaves no
act undone; and with it what the acts of an event do, free of the bound. -/

namespace Sys2Proof.Machine

/-! ## What the blocks leave for the weight -/

/-- What no block of an event writes: the lock table, the claims held back, and the job's lines not claimed yet. -/
structure KeepsClaims (s t : State) : Prop where
  locks : t.locks = s.locks
  heldBack : ∀ u, (t.position u).heldBack = (s.position u).heldBack
  linesLeft : Machine.linesLeft t = Machine.linesLeft s

theorem KeepsClaims.refl (s : State) : KeepsClaims s s := ⟨rfl, fun _ => rfl, rfl⟩

theorem KeepsClaims.trans (s t u : State) (h : KeepsClaims s t) (k : KeepsClaims t u) : KeepsClaims s u :=
  ⟨k.locks.trans h.locks, fun x => (k.heldBack x).trans (h.heldBack x), k.linesLeft.trans h.linesLeft⟩

theorem KeepsClaims.of_eq {s t : State} (hl : t.locks = s.locks) (hp : t.positions = s.positions) (hj : t.sweep.job = s.sweep.job) :
    KeepsClaims s t := by
  refine ⟨hl, fun u => ?_, ?_⟩
  · simp only [State.position, hp]
  · simp only [Machine.linesLeft, hj]

theorem Touch.keepsClaims (s t : State) (h : Touch s t) : KeepsClaims s t := by
  cases h with
  | request t r k hk hr =>
    rcases setRequest_cases t r s with ⟨k, -, he⟩ | ⟨-, he⟩
    · rw [he]
      refine ⟨rfl, fun u => ?_, rfl⟩
      rw [State.setPosition_position]
      split
      · next hu => rw [hu]
      · rfl
    · rw [he]; exact .of_eq rfl rfl rfl
  | produce t st d =>
    rcases produce_cases t st d s with ⟨r, -, he⟩ | ⟨-, he⟩ <;> rw [he]
    · exact .of_eq rfl rfl rfl
    · exact .refl s
  | post b => rw [postRecord_frame]; exact .of_eq rfl rfl rfl
  | suspect e => rcases addSuspect_cases e s with ⟨l, -, he⟩ | ⟨-, he⟩ <;> rw [he] <;> exact .of_eq rfl rfl rfl
  | unsuspect line => exact .of_eq rfl rfl rfl
  | rotate p => exact .of_eq rfl rfl rfl
  | enlist p op => exact .of_eq rfl rfl rfl
  | grant p u h => obtain ⟨-, q, ops, -, rfl⟩ := grantOp_cases p s _ h; exact .of_eq rfl rfl rfl
  | slot k w h => exact .of_eq rfl rfl rfl
  | count j j' hj h =>
    refine ⟨rfl, fun _ => rfl, ?_⟩
    obtain ⟨he, -⟩ := h
    rw [he]
    simp only [Machine.linesLeft, State.setJob, hj]
  | abort o =>
    unfold enterAborting
    split
    · split
      · next j hj =>
        refine ⟨rfl, fun _ => rfl, ?_⟩
        simp only [Machine.linesLeft, setEngine, State.setJob, hj]
      · exact .of_eq rfl rfl rfl
    · exact .refl s

theorem Touches.keepsClaims {s t : State} (h : Touches s t) : KeepsClaims s t :=
  h.rel KeepsClaims.refl KeepsClaims.trans Touch.keepsClaims

/-! ## Claims that wait -/

/-- The claims that wait in some entries of the lock table. -/
def waitingIn (locks : List LockEntry) : Nat := (locks.map fun e => e.waiting.length).sum

theorem claimsWaiting_eq (s : State) : claimsWaiting s = waitingIn s.locks := rfl

@[simp] theorem waitingIn_cons (e : LockEntry) (es : List LockEntry) : waitingIn (e :: es) = e.waiting.length + waitingIn es := rfl

/-- An entry that grants takes each claim it grants from its waiting list. -/
theorem LockEntry.advance_waiting (e : LockEntry) (es : List LockEntry) :
    e.advance.2.length + waitingIn (e.advance.1.toList ++ es) = e.waiting.length + waitingIn es := by
  unfold LockEntry.advance
  split
  · split
    · next h => simp [h]
    · next c cs h =>
      split
      · have hsplit := congrArg List.length
          (List.takeWhile_append_dropWhile (p := fun x : Claim => x.kind == .hostRead) (l := c :: cs))
        simp only [List.length_append] at hsplit
        simp only [Option.toList_some, List.cons_append, List.nil_append, waitingIn_cons, List.length_map, h]
        omega
      · simp only [Option.toList_some, List.cons_append, List.nil_append, waitingIn_cons, List.length_cons, List.length_nil, h]
        omega
  · simp

theorem lockRelease_waiting (pos : Claimant) (l : List LockEntry) :
    (lockRelease pos l).2.length + waitingIn (lockRelease pos l).1 = waitingIn l := by
  induction l with
  | nil => rfl
  | cons e es ih =>
    unfold lockRelease
    split
    · exact LockEntry.advance_waiting { e with holders := e.holders.erase pos } es
    · simp only [waitingIn_cons]; omega

/-- A claim placed is granted at once, or is one more that waits. -/
theorem lockPlace_waiting (c : Claim) (line : Nat) (l : List LockEntry) :
    waitingIn (lockPlace c line l).1 = waitingIn l + if (lockPlace c line l).2 then 0 else 1 := by
  induction l with
  | nil => rfl
  | cons e es ih =>
    unfold lockPlace
    split
    · unfold LockEntry.arrive
      cases joinsReaders e c
      · simp; omega
      · simp
    · simp only [waitingIn_cons, ih]; omega

/-! ## The weight -/

/-- What an act may still come to, in acts, without the claims that wait or are held back and the lines not claimed. -/
def Act.weight : Act → Nat
  | .deliver .. | .start _ => 5
  | .release _ => 2
  | .place .. => 6
  | .placeHeld _ | .sweepPlace | .sweepTest => 1

/-- The weight of some acts: each is at least one act. -/
def actsWeight (acts : List Act) : Nat := (acts.map Act.weight).sum

@[simp] theorem actsWeight_nil : actsWeight [] = 0 := rfl
@[simp] theorem actsWeight_cons (a : Act) (as : List Act) : actsWeight (a :: as) = a.weight + actsWeight as := rfl
@[simp] theorem actsWeight_append (as bs : List Act) : actsWeight (as ++ bs) = actsWeight as + actsWeight bs := by
  simp [actsWeight]

theorem actsWeight_starts (l : List Claimant) : actsWeight (l.map Act.start) = 5 * l.length := by
  induction l with
  | nil => rfl
  | cons c l ih => simp only [List.map_cons, actsWeight_cons, ih, List.length_cons, Act.weight]; omega

theorem actsWeight_endActs (pos : Claimant) : actsWeight (endActs pos) ≤ 4 := by cases pos <;> simp [endActs, Act.weight]

/-- What the claims that wait or are held back and the lines not claimed may still come to. -/
def claimsWeight (s : State) : Nat := 5 * claimsWaiting s + 6 * claimsHeldBack s + 7 * linesLeft s

theorem KeepsClaims.weight {s t : State} (h : KeepsClaims s t) : claimsWeight t = claimsWeight s := by
  simp only [claimsWeight, claimsWaiting, claimsHeldBack, h.locks, h.heldBack, h.linesLeft]

theorem Does.weight {pos : Claimant} {s : State} {e : Effect} (h : Does pos s e) :
    actsWeight e.2 + claimsWeight e.1 ≤ claimsWeight s + 4 := by
  have hacts : actsWeight e.2 ≤ 4 := by
    rcases h.acts with h | h <;> rw [h]
    · exact Nat.zero_le _
    · exact actsWeight_endActs pos
  rw [h.touches.keepsClaims.weight]
  omega

theorem releaseLine_weight (pos : Claimant) (s : State) :
    actsWeight (releaseLine pos s).2 + claimsWeight (releaseLine pos s).1 ≤ claimsWeight s + 1 := by
  have hwait := lockRelease_waiting pos s.locks
  have hheld : claimsHeldBack (releaseLine pos s).1 = claimsHeldBack s := by
    unfold claimsHeldBack
    congr 1
    refine List.filter_congr fun t _ => ?_
    unfold releaseLine freePosition
    cases pos with
    | host u =>
      dsimp only
      rw [State.setPosition_position]
      split
      · next h => rw [h]; rfl
      · rfl
    | slot k => rfl
  have hlocks : claimsWaiting (releaseLine pos s).1 = waitingIn (lockRelease pos s.locks).1 := by cases pos <;> rfl
  have hlines : linesLeft (releaseLine pos s).1 = linesLeft s := by cases pos <;> rfl
  have hacts : actsWeight (releaseLine pos s).2 ≤ 5 * (lockRelease pos s.locks).2.length + 1 := by
    show actsWeight ((lockRelease pos s.locks).2.map Act.start ++ heldActs pos) ≤ _
    rw [actsWeight_append, actsWeight_starts]
    cases pos <;> simp [heldActs, Act.weight]
  simp only [claimsWeight, hheld, hlocks, hlines, claimsWaiting_eq s]
  omega

theorem placeClaim_weight (pos : Claimant) (kind : ClaimKind) (line : Nat) (s : State) :
    actsWeight (placeClaim pos kind line s).2 + claimsWeight (placeClaim pos kind line s).1 ≤ claimsWeight s + 5 := by
  have hwait := lockPlace_waiting { pos := pos, kind := kind } line s.locks
  have hlocks : claimsWaiting (placeClaim pos kind line s).1 = waitingIn (lockPlace { pos := pos, kind := kind } line s.locks).1 := rfl
  have hheld : claimsHeldBack (placeClaim pos kind line s).1 = claimsHeldBack s := rfl
  have hlines : linesLeft (placeClaim pos kind line s).1 = linesLeft s := rfl
  have hacts : actsWeight (placeClaim pos kind line s).2 =
      if (lockPlace { pos := pos, kind := kind } line s.locks).2 then 5 else 0 := by
    unfold placeClaim
    dsimp only
    split <;> rfl
  simp only [claimsWeight, hheld, hlocks, hlines, claimsWaiting_eq s, hacts, hwait]
  split <;> omega

theorem claimsHeldBack_eq (s : State) : claimsHeldBack s = allTags.countP fun t => (s.position t).heldBack.isSome :=
  List.countP_eq_length_filter.symm

/-- A held-back claim that is placed is one less that is held back. -/
theorem claimsHeldBack_placed (t : Tag) (s : State) (x : HostPos) (ht : (s.position t).heldBack.isSome = true)
    (hx : x.heldBack = none) : claimsHeldBack (s.setPosition t x) + 1 ≤ claimsHeldBack s := by
  rw [claimsHeldBack_eq, claimsHeldBack_eq]
  have hsplit := List.perm_cons_erase (mem_allTags t)
  have hnodup : (t :: allTags.erase t).Nodup := hsplit.nodup_iff.mp (List.nodup_finRange 32)
  rw [hsplit.countP_eq, hsplit.countP_eq, List.countP_cons_of_pos (p := fun u => (s.position u).heldBack.isSome) ht,
    List.countP_cons_of_neg (by simp [hx])]
  have hothers : (allTags.erase t).countP (fun u => ((s.setPosition t x).position u).heldBack.isSome) =
      (allTags.erase t).countP fun u => (s.position u).heldBack.isSome := by
    refine List.countP_congr fun u hu => ?_
    have hne : u ≠ t := fun h => (List.nodup_cons.mp hnodup).1 (h ▸ hu)
    rw [State.setPosition_position_other _ _ _ _ hne]
  omega

theorem placeHeldBack_weight (t : Tag) (s : State) :
    actsWeight (placeHeldBack t s).2 + claimsWeight (placeHeldBack t s).1 ≤ claimsWeight s := by
  unfold placeHeldBack
  split
  · next c _ hc =>
    generalize hx : ({ s.position t with heldBack := none } : HostPos) = x
    have hheld := claimsHeldBack_placed t s x (by simp [hc]) (by simp [← hx])
    have hwait : claimsWaiting (s.setPosition t x) = claimsWaiting s := rfl
    have hlines : linesLeft (s.setPosition t x) = linesLeft s := rfl
    simp only [claimsWeight, hwait, hlines, actsWeight_cons, actsWeight_nil, Act.weight]
    omega
  · simp

theorem placeNext_weight (s : State) : actsWeight (placeNext s).2 + claimsWeight (placeNext s).1 ≤ claimsWeight s := by
  unfold placeNext
  split
  · next j k _ hj _ =>
    split
    · next h =>
      simp only [actsWeight_cons, actsWeight_nil, Act.weight, claimsWeight, claimsWaiting, claimsHeldBack, linesLeft, hj,
        State.setJob_locks, State.setSlot_locks, State.setJob_position, State.setSlot_position]
      simp only [State.setJob]
      omega
    · simp
  · simp

/-- The targets leaving SYNCING write the plane records alone. -/
theorem foldl_leaveSyncing_frame (complete : Bool) (l : List PlaneId) (s : State) :
    ∃ planes, l.foldl (leaveSyncing complete) s = { s with planes := planes } := by
  induction l generalizing s with
  | nil => exact ⟨_, rfl⟩
  | cons p l ih =>
    obtain ⟨planes, h⟩ := ih (leaveSyncing complete s p)
    refine ⟨planes, h.trans ?_⟩
    unfold leaveSyncing
    dsimp only
    split <;> rfl

/-- The end of a job writes plane records and the sweep engine alone. -/
theorem endJob_frame (j : Job) (o : JobOutcome) (s : State) :
    ∃ planes, endJob j o s =
      storeCompletion (completionOf j o) (({ s with planes := planes } : State).setJob { j with outcome := some o }) := by
  obtain ⟨planes, h⟩ := foldl_leaveSyncing_frame (o == .complete) (planesOf (syncingTargets s j)) s
  refine ⟨planes, ?_⟩
  unfold endJob
  rw [h]

theorem endJob_claims (j : Job) (o : JobOutcome) (s : State) (hj : s.sweep.job = some j) : KeepsClaims s (endJob j o s) := by
  obtain ⟨planes, h⟩ := endJob_frame j o s
  rw [h]
  unfold storeCompletion
  split
  all_goals
    refine ⟨rfl, fun _ => rfl, ?_⟩
    simp only [Machine.linesLeft, State.setJob, hj]

theorem completeJob_weight (s : State) : claimsWeight (completeJob s) = claimsWeight s := by
  unfold completeJob
  split
  · next j _ hj =>
    split
    · exact (endJob_claims j .complete s hj).weight
    · rfl
  · rfl

/-- An act performed weighs more than all that it brings. -/
theorem perform_weight (a : Act) (s : State) :
    actsWeight (perform a s).2 + claimsWeight (perform a s).1 < a.weight + claimsWeight s := by
  cases a with
  | deliver op p e => exact Nat.lt_of_le_of_lt (does_deliverEnd op p e s).weight (by simp only [Act.weight]; omega)
  | start pos => exact Nat.lt_of_le_of_lt (does_startWork pos s).weight (by simp only [Act.weight]; omega)
  | release pos => exact Nat.lt_of_le_of_lt (releaseLine_weight pos s) (by simp only [Act.weight]; omega)
  | place pos kind line => exact Nat.lt_of_le_of_lt (placeClaim_weight pos kind line s) (by simp only [Act.weight]; omega)
  | placeHeld t => exact Nat.lt_of_le_of_lt (placeHeldBack_weight t s) (by simp only [Act.weight]; omega)
  | sweepPlace => exact Nat.lt_of_le_of_lt (placeNext_weight s) (by simp only [Act.weight]; omega)
  | sweepTest =>
    show 0 + claimsWeight (completeJob s) < 1 + claimsWeight s
    rw [completeJob_weight]; omega

/-- With as much fuel as the weight, no act is left. -/
theorem performAll_done (n : Nat) (acts : List Act) (s : State) (h : actsWeight acts + claimsWeight s ≤ n) :
    (performAll n acts s).2 = [] := by
  induction n generalizing acts s with
  | zero =>
    cases acts with
    | nil => rfl
    | cons a as => have := perform_weight a s; simp only [actsWeight_cons] at h; omega
  | succ n ih =>
    cases acts with
    | nil => rfl
    | cons a as =>
      refine ih _ _ ?_
      have := perform_weight a s
      simp only [actsWeight_cons, actsWeight_append] at h ⊢
      omega

theorem Act.weight_le (a : Act) : a.weight ≤ 8 := by cases a <;> simp [weight]

theorem actsWeight_le (acts : List Act) : actsWeight acts ≤ 8 * acts.length := by
  induction acts with
  | nil => simp
  | cons a as ih => have := a.weight_le; simp only [actsWeight_cons, List.length_cons]; omega

/-- Settles O16: the model's bound is no less than the weight of what an event may come to. -/
theorem eventSettles : Obligations.EventSettles := by
  intro acts s
  refine performAll_done _ acts s ?_
  have := actsWeight_le acts
  simp only [claimsWeight, actBound]
  omega

/-! ## Events free of the bound -/

/-- The acts of an event and all that follows from them bring `s` to `t`. -/
inductive Runs : List Act → State → State → Prop
  | nil (s : State) : Runs [] s s
  | cons (a : Act) (as : List Act) (s t : State) (h : Runs ((perform a s).2 ++ as) (perform a s).1 t) : Runs (a :: as) s t

theorem runs_of_performAll (n : Nat) (acts : List Act) (s : State) (h : (performAll n acts s).2 = []) :
    Runs acts s (performAll n acts s).1 := by
  induction n generalizing acts s with
  | zero =>
    cases acts with
    | nil => exact .nil s
    | cons a as => cases h
  | succ n ih =>
    cases acts with
    | nil => exact .nil s
    | cons a as => exact .cons a as s _ (ih _ _ h)

theorem runs_settleActs (acts : List Act) (s : State) : Runs acts s (settleActs acts s) :=
  runs_of_performAll _ acts s (eventSettles acts s)

/-- Acts bring a state to one state. -/
theorem Runs.unique {acts : List Act} {s t u : State} (ht : Runs acts s t) (hu : Runs acts s u) : t = u := by
  induction ht with
  | nil s => cases hu; rfl
  | cons a as s t _ ih =>
    cases hu with
    | cons _ _ _ _ h => exact ih h

theorem settleActs_eq {acts : List Act} {s t : State} (h : Runs acts s t) : settleActs acts s = t :=
  (runs_settleActs acts s).unique h

@[simp] theorem settleActs_nil (s : State) : settleActs [] s = s := settleActs_eq (.nil s)

/-- The first act of an event is performed, and its acts go before those that wait. -/
theorem settleActs_cons (a : Act) (as : List Act) (s : State) :
    settleActs (a :: as) s = settleActs ((perform a s).2 ++ as) (perform a s).1 :=
  settleActs_eq (.cons a as s _ (runs_settleActs ..))

theorem Runs.append {as bs : List Act} {s t u : State} (h : Runs as s t) (k : Runs bs t u) : Runs (as ++ bs) s u := by
  induction h with
  | nil s => exact k
  | cons a as s t _ ih =>
    refine .cons a (as ++ bs) s u ?_
    rw [← List.append_assoc]
    exact ih k

/-- The acts of an event are settled in turn. -/
theorem settleActs_append (as bs : List Act) (s : State) : settleActs (as ++ bs) s = settleActs bs (settleActs as s) :=
  settleActs_eq ((runs_settleActs as s).append (runs_settleActs bs _))

end Sys2Proof.Machine
end

section
/-! PROOFS. What a command can do, said once: every command that runs is a run of moves, each a shared operation under the condition
in which the commands call it. An invariant that every move keeps, every step keeps. -/

namespace Sys2Proof.Machine

/-! ## Moves -/

/-- A claim to be placed is of its position's kind (R23); other acts carry none. -/
def Act.fits : Act → Prop
  | .place pos kind _ => (Claim.mk pos kind).kindFits
  | .deliver .. | .start _ | .release _ | .placeHeld _ | .sweepPlace | .sweepTest => True

/-- What HRST# falling does before the granted sweep lines start (R33, R60, R85, R150, R163): the channel is cut off, and the table
keeps what is left of it. -/
def channelCut (s : State) : State :=
  let s1 := clearChannel (allTags.foldl cutOffTag s)
  allPlanes.foldl clearHostList
    (allTags.foldl dropSettled { s1 with locks := (lockCutOff (releasedAtReset s1) s1.locks).1 })

/-- The state after power-on reset's start (R165). -/
def poweredOn (s : State) : State :=
  sampleLinks { State.reset with
    pending := s.pending
    now := s.now
    mgmt := { State.reset.mgmt with frame := s.mgmt.frame.map fun _ => .ignored }
    pins := { s.pins with inReset := true } }

/-- The job and its targets as an accepted SWEEP_START sets them, before its result and its first claims (R90). -/
def jobSet (j : Job) (s : State) : State :=
  let s1 := (planesOf j.targets).foldl enterSyncing s
  { s1 with sweep := { s1.sweep with job := some j, jobCounter := j.id, engine := .running } }

/-- The conditions under which SWEEP_START accepts a job (R89). -/
structure JobAccepted (j : Job) (s : State) : Prop where
  idle : s.sweep.engine = .idle
  targets : ∀ p, inSet j.targets p = true → (s.plane p).state = .offline
  sound : j.sound
  outcome : j.outcome = none

/-- One move of a command. -/
inductive Move (s : State) : State → Prop
  -- events
  | touch (u : State) (h : Touch s u) : Move s u
  | acts (acts : List Act) (h : ∀ a ∈ acts, a.fits) : Move s (settleActs acts s)
  | fail (p : PlaneId) (c : FailCause) : Move s (failPlane p c s)
  | countError (p : PlaneId) (h : (s.plane p).state.inService = true) : Move s (countDataError p s)
  | pop (p : PlaneId) (q : QueuedOp) (qs : List QueuedOp) (h : (s.port p).queue = q :: qs) :
      Move s (s.setPort p { s.port p with queue := qs })
  | drain (p : PlaneId) : Move s (drainPlane s p)
  | endAbort : Move s (endAbort s)
  | complete : Move s (completeJob s)
  | time (n : Nat) (h : s.now ≤ n) : Move s { s with now := n }
  | grantLine (line : Nat) : Move s { s with locks := (lockGrant line s.locks).1 }
  -- the management port
  | out (o : Outputs) : Move s { s with out := o }
  | frame (m : Mgmt) (hb : m.busy = s.mgmt.busy) (hr : m.result = s.mgmt.result ∨ m.result = none)
      (hf : FramesSound s → FramesSound { s with mgmt := m }) : Move s { s with mgmt := m }
  | post (c : ResultCode) (l : List Byte) (hb : s.mgmt.busy = false) (hf : s.mgmt.frame = none) : Move s (postResult c l s)
  | dropCompletion (hf : s.mgmt.frame = none) : Move s (placeWaiting (dropCompletion s))
  | placeWaiting : Move s (placeWaiting s)
  -- registers and tables
  | policies (u : State) (hr : PoliciesInRange s → PoliciesInRange u)
      (hu : u = { s with errorLimit := u.errorLimit, planeTimeout := u.planeTimeout, sweepShare := u.sweepShare
                         log := { s.log with mode := u.log.mode, threshold := u.log.threshold }, alertMask := u.alertMask }) : Move s u
  | geometry (code : Nat) (h : code ≤ 6) : Move s { s with geometry := code, suspects := [] }
  | region (i : Fin 8) (r : Region) (h : r.base ≤ r.limit ∧ r.limit ≤ Config.lastLine) : Move s (setRegion i r s)
  | defaults (a : Attrs) : Move s { s with defaultAttrs := a }
  | serve (h : ∃ p, (s.plane p).state = .online) : Move s { s with service := .serving }
  | halt : Move s { s with service := .halted }
  | logCut (l : List DivRec) (n : Nat) (hl : l <:+ s.log.records) (hn : n ≤ s.log.overflow) :
      Move s { s with log := { s.log with records := l, overflow := n } }
  | suspectsCut (l : List SuspectEntry) (h : l.Sublist s.suspects) : Move s { s with suspects := l }
  | acknowledge (m : CauseSet) : Move s { s with sticky := s.sticky &&& m }
  -- planes
  | adopt (p : PlaneId) (h : (s.plane p).state = .offline) : Move s (s.setPlane p { s.plane p with state := .online, errorCount := 0 })
  | unfail (p : PlaneId) (h : (s.plane p).state = .failed) : Move s (s.setPlane p { s.plane p with state := .offline, cause := none })
  | detach (p : PlaneId) (hb : s.mgmt.busy = false) (hr : s.mgmt.result = none) (hp : (s.plane p).state = .online)
      (ho : ∃ q, q ≠ p ∧ (s.plane q).state = .online) :
      Move s { s.setPlane p { s.plane p with state := .detaching } with mgmt := { s.mgmt with busy := true } }
  | lrdy (p : PlaneId) (level : Bool) : Move s (setLrdy p level (linkOf level) s)
  | startJob (j : Job) (h : JobAccepted j s) : Move s (jobSet j s)
  -- the host channel
  | assembly (l : List Transfer) (h : l = [] ∨ requestReady s = true ∧ l.length < 6) : Move s { s with requestAssembly := l }
  | discard (t : Tag) (kind : Byte) : Move s (discardMessage t kind s)
  | enter (t : Tag) (r : Request) (h : s.tag t = .free) : Move s (s.setTag t (.inWork r))
  | holdBack (t : Tag) (c : HeldClaim) (h : c.kind ≠ .sweep) : Move s (s.setPosition t { s.position t with heldBack := some c })
  | takeHead : Move s (takeHead s)
  | cut : Move s (channelCut { s with pins := { s.pins with hrstLow := true } })
  | hrstRising : Move s { s with pins := { s.pins with hrstLow := false } }
  | powerOn : Move s (poweredOn s)
  | powerOnEnd : Move s (sampleLinks { s with pins := { s.pins with inReset := false } })

/-- A run of moves. -/
abbrev Moves : State → State → Prop := Relation.ReflTransGen Move

theorem Move.many {s t : State} (h : Move s t) : Moves s t := .single h

/-- What every move keeps, a run of moves keeps. -/
theorem Moves.keeps {P : State → Prop} (h : ∀ s t, Move s t → P s → P t) {s t : State} (hst : Moves s t) (hs : P s) : P t := by
  induction hst with
  | refl => exact hs
  | tail _ hab ih => exact h _ _ hab ih

theorem Moves.ite {c : Prop} [Decidable c] {s a b : State} (ha : c → Moves s a) (hb : ¬c → Moves s b) :
    Moves s (if c then a else b) := by
  split
  · next h => exact ha h
  · next h => exact hb h

theorem Touches.moves {s t : State} (h : Touches s t) : Moves s t :=
  h.rel (fun _ => .refl) (fun _ _ _ => .trans) fun _ _ h => (Move.touch _ h).many

theorem moves_foldl {α : Type} (f : State → α → State) (h : ∀ s a, Moves s (f s a)) (l : List α) (s : State) :
    Moves s (l.foldl f s) := by
  induction l generalizing s with
  | nil => exact .refl
  | cons a l ih => exact (h s a).trans (ih _)

/-! ## Events -/

theorem moves_endOfEvent (s : State) : Moves s (endOfEvent s) :=
  Move.endAbort.many.trans (moves_foldl drainPlane (fun _ p => (Move.drain p).many) allPlanes _)

theorem moves_starts (l : List Claimant) (s : State) : Moves s (settleActs (l.map Act.start) s) := by
  refine (Move.acts _ fun a ha => ?_).many
  obtain ⟨pos, -, rfl⟩ := List.mem_map.mp ha
  trivial

theorem moves_expire (p : PlaneId) (s : State) : Moves s (expire p s) := by
  unfold expire
  split
  · exact .refl
  · exact ((Move.time _ (Nat.le_max_left ..)).many.tail (.fail p .timeout)).trans (moves_endOfEvent _)

theorem moves_expireOverdue (s : State) (p : PlaneId) : Moves s (expireOverdue s p) :=
  .ite (fun _ => moves_expire p s) fun _ => .refl

/-! ## What the acts of an event do to planes -/

/-- A plane leaves SYNCING with its job's end, once. -/
theorem foldl_leaveSyncing_plane (complete : Bool) (l : List PlaneId) (s : State) (p : PlaneId) :
    (l.foldl (leaveSyncing complete) s).plane p =
      if p ∈ l then (if complete then { s.plane p with state := .online, errorCount := 0 } else { s.plane p with state := .offline })
      else s.plane p := by
  induction l generalizing s with
  | nil => rfl
  | cons q l ih =>
    have hstep : (leaveSyncing complete s q).plane p =
        if p = q then (if complete then { s.plane p with state := .online, errorCount := 0 }
          else { s.plane p with state := .offline }) else s.plane p := by
      by_cases h : p = q
      · subst h; cases complete <;> simp [leaveSyncing]
      · cases complete <;> simp [leaveSyncing, State.setPlane_plane, h]
    rw [List.foldl_cons, ih, hstep]
    by_cases h : p = q
    · by_cases hm : p ∈ l <;> cases complete <;> simp [h]
    · simp [h]

theorem storeCompletion_planes (c : CompletionRec) (s : State) : (storeCompletion c s).planes = s.planes := by
  unfold storeCompletion
  split <;> rfl

theorem endJob_plane (j : Job) (o : JobOutcome) (s : State) (p : PlaneId) :
    (endJob j o s).plane p = if inSet j.targets p = true ∧ (s.plane p).state = .syncing then
      (if o = .complete then { s.plane p with state := .online, errorCount := 0 } else { s.plane p with state := .offline })
      else s.plane p := by
  have h : (endJob j o s).plane p = ((planesOf (syncingTargets s j)).foldl (leaveSyncing (o == .complete)) s).plane p := by
    unfold endJob State.plane
    rw [storeCompletion_planes]
    rfl
  rw [h, foldl_leaveSyncing_plane]
  simp [syncingTargets]

/-- What the acts of an event do to planes: a RUNNING job that completes puts SYNCING planes ONLINE, and nothing else. -/
structure PlanesGo (s t : State) : Prop where
  running : t.sweep.engine = .running → s.sweep.engine = .running
  plane : ∀ p, t.plane p = s.plane p ∨
    (s.plane p).state = .syncing ∧ s.sweep.engine = .running ∧ t.plane p = { s.plane p with state := .online, errorCount := 0 }

theorem PlanesGo.of_eq {s t : State} (he : t.sweep.engine = s.sweep.engine) (hp : t.planes = s.planes) : PlanesGo s t :=
  ⟨fun h => he ▸ h, fun p => .inl (by simp only [State.plane, hp])⟩

theorem PlanesGo.refl (s : State) : PlanesGo s s := .of_eq rfl rfl

theorem PlanesGo.trans (s t u : State) (h : PlanesGo s t) (k : PlanesGo t u) : PlanesGo s u := by
  refine ⟨fun hu => h.running (k.running hu), fun p => ?_⟩
  rcases h.plane p with hst | ⟨hs, hr, hst⟩ <;> rcases k.plane p with htu | ⟨ht, hr', htu⟩
  · exact .inl (htu.trans hst)
  · rw [hst] at ht htu; exact .inr ⟨ht, h.running hr', htu⟩
  · exact .inr ⟨hs, hr, htu.trans hst⟩
  · rw [hst] at ht; cases ht

theorem Touch.planesGo (s t : State) (h : Touch s t) : PlanesGo s t := by
  cases h with
  | request t r k hk hr => rcases setRequest_cases t r s with ⟨k, -, he⟩ | ⟨-, he⟩ <;> rw [he] <;> exact .of_eq rfl rfl
  | produce t st d => rcases produce_cases t st d s with ⟨r, -, he⟩ | ⟨-, he⟩ <;> rw [he] <;> exact .of_eq rfl rfl
  | post b => rw [postRecord_frame]; exact .of_eq rfl rfl
  | suspect e => rcases addSuspect_cases e s with ⟨l, -, he⟩ | ⟨-, he⟩ <;> rw [he] <;> exact .of_eq rfl rfl
  | grant p u h => obtain ⟨-, q, ops, -, rfl⟩ := grantOp_cases p s _ h; exact .of_eq rfl rfl
  | abort o =>
    unfold enterAborting
    split
    · split <;> exact ⟨nofun, fun p => .inl rfl⟩
    · exact .refl s
  | unsuspect _ | rotate _ | enlist _ _ | slot _ _ _ | count _ _ _ _ => exact .of_eq rfl rfl

theorem completeJob_planesGo (s : State) : PlanesGo s (completeJob s) := by
  unfold completeJob
  split
  · next j hr hj =>
    split
    · refine ⟨fun _ => hr, fun p => ?_⟩
      rw [endJob_plane]
      split
      · next h => exact .inr ⟨h.2, hr, by simp⟩
      · exact .inl rfl
    · exact .refl s
  · exact .refl s

theorem placeNext_planesGo (s : State) : PlanesGo s (placeNext s).1 := by
  unfold placeNext
  split
  · split
    · exact .of_eq rfl rfl
    · exact .refl s
  · exact .refl s

theorem placeHeldBack_planesGo (t : Tag) (s : State) : PlanesGo s (placeHeldBack t s).1 := by
  unfold placeHeldBack
  split
  · exact .of_eq rfl rfl
  · exact .refl s

theorem releaseLine_planesGo (pos : Claimant) (s : State) : PlanesGo s (releaseLine pos s).1 := by
  cases pos <;> exact .of_eq rfl rfl

theorem settleActs_planesGo (acts : List Act) (s : State) : PlanesGo s (settleActs acts s) :=
  settleActs_keeps (PlanesGo s)
    (perform_keeps (PlanesGo s) (fun _ _ h hs => hs.trans _ _ _ (h.planesGo _ _)) (fun pos _ hs => hs.trans _ _ _ (releaseLine_planesGo pos _))
      (fun _ _ _ _ hs => hs.trans _ _ _ (.of_eq rfl rfl)) (fun t _ hs => hs.trans _ _ _ (placeHeldBack_planesGo t _))
      (fun _ hs => hs.trans _ _ _ (placeNext_planesGo _)) fun _ hs => hs.trans _ _ _ (completeJob_planesGo _))
    acts s (.refl s)

theorem PlanesGo.inService {s t : State} (h : PlanesGo s t) (p : PlaneId) (hs : (s.plane p).state.inService = true) :
    (t.plane p).state.inService = true := by
  rcases h.plane p with he | ⟨-, -, he⟩ <;> rw [he]
  · exact hs
  · rfl

/-! ## Responses -/

theorem moves_matchResponse (p : PlaneId) (slot : BitVec 4) (isRead : Bool) (e : Option OpEnd) (s : State)
    (hs : (s.plane p).state.inService = true) : Moves s (matchResponse p slot isRead e s) := by
  unfold matchResponse
  split
  · next q qs e hq =>
    dsimp only
    split
    · have hdelivered : Moves s (settleActs [.deliver q.op p e] (s.setPort p { s.port p with queue := qs })) :=
        (Move.pop p q qs hq).many.tail (.acts _ (by simp [Act.fits]))
      have hservice := (settleActs_planesGo [.deliver q.op p e] (s.setPort p { s.port p with queue := qs })).inService p hs
      refine (hdelivered.trans ?_).trans (touches_arbitrate p _).moves
      unfold afterEnd
      split
      · exact (Move.countError p hservice).many
      · exact (Move.fail p .writeError).many
      all_goals exact .refl
    · exact (Move.fail p .linkFault).many
  · exact (Move.fail p .linkFault).many

theorem moves_takeResponse (p : PlaneId) (slot : BitVec 4) (gen : BitVec 3) (isRead : Bool) (e : Option OpEnd) (s : State) :
    Moves s (takeResponse p slot gen isRead e s) := by
  unfold takeResponse
  split
  · exact .refl
  · next h =>
    have hs : (s.plane p).state.inService = true := by
      by_contra hn
      exact h (by simp [setAside, hn])
    exact ((moves_matchResponse p slot isRead e s hs).trans (moves_endOfEvent _)).trans (moves_expireOverdue _ p)

theorem moves_expireBefore (n : Nat) (p : PlaneId) (s : State) : Moves s (expireBefore n p s) := by
  induction n generalizing s with
  | zero => exact .refl
  | succ n ih =>
    unfold expireBefore
    split
    · exact (moves_expire _ s).trans (ih _)
    · exact .refl

theorem moves_expireInTurn (p : PlaneId) (s : State) : Moves s (expireInTurn p s) :=
  .ite (fun _ => moves_expire p s) fun _ => (moves_expireBefore 3 p s).trans (moves_expire p _)

theorem moves_quiet (s : State) : Moves s s.quiet := (Move.out {}).many

theorem moves_passTime (s : State) : Moves s (passTime s) := by
  unfold passTime
  split
  · exact moves_expire _ s
  · exact (Move.time _ (Nat.le_succ _)).many

/-! ## Frames -/

/-- A latch that an open frame of the state may have taken (R169, R172, R173). -/
def Latch.holds (s : State) : Latch → Prop
  | .nothing | .status _ | .result none | .completion none => True
  | .result (some r) => s.mgmt.result = some r
  | .completion (some c) => s.sweep.completions.head? = some c

theorem framesSound_ended (s : State) (m : Mgmt) (hf : m.frame = none) (ha : m.assembly = []) : FramesSound { s with mgmt := m } := by
  refine ⟨fun _ f h => ?_, fun h => absurd ha h, fun b r h => ?_, fun b c h => ?_⟩
  all_goals simp_all

theorem framesSound_taken (s : State) (m : Mgmt) (b : Byte) (l : Latch) (hr : s.pins.inReset = false)
    (hf : m.frame = some (.taken b l)) (hres : m.result = s.mgmt.result) (hl : l.holds s) : FramesSound { s with mgmt := m } := by
  refine ⟨fun h => ?_, fun _ => ⟨_, hf, by simp⟩, fun b' r h => ?_, fun b' c h => ?_⟩
  · rw [show ({ s with mgmt := m } : State).pins.inReset = s.pins.inReset from rfl, hr] at h; cases h
  · obtain ⟨-, rfl⟩ : b = b' ∧ l = .result (some r) := by simpa [hf] using h
    exact hres.trans hl
  · obtain ⟨-, rfl⟩ : b = b' ∧ l = .completion (some c) := by simpa [hf] using h
    exact hl

/-- An ignored frame keeps the frames sound: none was taken, so no bytes stand in the assembly buffer. -/
theorem framesSound_ignored (s : State) (f : Option OpenFrame) (h : startedFrame s = .ignored) (hf : ∀ x ∈ f, x = .ignored)
    (hs : FramesSound s) : FramesSound (s.setFrame f) := by
  obtain ⟨hreset, hassembly, -, -⟩ := hs
  have hnone : s.mgmt.assembly = [] := by
    by_contra hne
    obtain ⟨x, hx, hxi⟩ := hassembly hne
    unfold startedFrame at h
    split at h
    · next hr => exact hxi (hreset hr x hx)
    · rw [Option.mem_def.mp hx] at h; exact hxi h
  refine ⟨fun _ => hf, fun ha => absurd hnone ha, fun b r hl => ?_, fun b c hl => ?_⟩
  · cases hf _ hl
  · cases hf _ hl

/-- The latch of a frame whose start is taken holds in a state with sound frames. -/
theorem latch_holds_of_started (s : State) (b : Byte) (l : Latch) (h : startedFrame s = .taken b l) (hs : FramesSound s) :
    s.pins.inReset = false ∧ l.holds s := by
  obtain ⟨-, -, hresult, hcompletion⟩ := hs
  unfold startedFrame at h
  split at h
  · cases h
  · next hr =>
    refine ⟨by simpa using hr, ?_⟩
    cases hf : s.mgmt.frame with
    | none => rw [hf] at h; cases h; trivial
    | some x =>
      rw [hf] at h
      cases h
      match l with
      | .result (some r) => exact hresult b r hf
      | .completion (some c) => exact hcompletion b c hf
      | .nothing | .status _ | .result none | .completion none => trivial

/-- A frame is a run of moves where what its type latches holds and what its end does is one. -/
theorem moves_takeFrame (n : Nat) (stillOpen : Bool) (type : FrameType) (s : State)
    (hlatch : ∀ l, l.holds s → (type.latch s l).holds s)
    (heffect : ∀ l u, u.mgmt = { s.mgmt with frame := none, assembly := [] } → Moves u (type.effect l u)) :
    Moves s (takeFrame n stillOpen type s) := by
  unfold takeFrame
  split
  · next h =>
    refine (moves_quiet s).tail (.frame _ rfl (.inl rfl) fun hs => framesSound_ignored s _ h ?_ hs)
    cases stillOpen <;> simp
  · next b l h =>
    have hended : Moves s s.quiet.endFrame :=
      (moves_quiet s).tail (.frame _ rfl (.inl rfl) fun _ => framesSound_ended _ _ rfl rfl)
    dsimp only
    split
    · refine (moves_quiet s).tail (.frame _ rfl (.inl rfl) fun hs => ?_)
      obtain ⟨hr, hl⟩ := latch_holds_of_started s b l h hs
      refine framesSound_taken s.quiet _ b _ hr rfl rfl ?_
      show Latch.holds s (if n = 0 then l else type.latch s l)
      split
      · exact hl
      · exact hlatch l hl
    · split
      · exact hended
      · exact (hended.tail (.out _)).trans (heffect _ _ rfl)

theorem moves_rejected (s : State) (hf : s.mgmt.frame = none) (ha : s.mgmt.assembly = []) (b : Bool) :
    Moves s { s with mgmt := { s.mgmt with rejected := b } } :=
  (Move.frame { s.mgmt with rejected := b } rfl (.inl rfl) fun _ => framesSound_ended s _ hf ha).many

/-- A COMMAND frame is a run of moves where its command's part is one, with no result held, no plane DETACHING tracked and no frame in
progress. -/
theorem moves_takeCommand (n : Nat) (right : Bool) (body : State → State) (s : State)
    (hbody : ∀ u, u.mgmt.busy = false → u.mgmt.result = none → u.mgmt.frame = none → Moves u (body u)) :
    Moves s (takeCommand n right body s) := by
  refine moves_takeFrame n false _ s (fun _ _ => trivial) fun l u hu => ?_
  have hf : u.mgmt.frame = none := by rw [hu]
  have ha : u.mgmt.assembly = [] := by rw [hu]
  show Moves u (if u.mgmt.busy = true ∨ u.mgmt.result.isSome = true then _ else if right then body u else postResult .badLength [] u)
  split
  · exact moves_rejected u hf ha true
  · next h =>
    simp only [not_or, Bool.not_eq_true, Option.isSome_eq_false_iff, Option.isNone_iff_eq_none] at h
    split
    · exact hbody u h.1 h.2 hf
    · exact (Move.post _ _ h.1 hf).many

/-! ## Rows of the management port -/

section Bodies

/-- A command's part that is a run of moves wherever a command runs. -/
def BodyMoves (body : State → State) : Prop :=
  ∀ u, u.mgmt.busy = false → u.mgmt.result = none → u.mgmt.frame = none → Moves u (body u)

theorem BodyMoves.posts {f : State → State} {c : ResultCode} {l : State → List Byte} (h : ∀ u, Moves u (f u))
    (hm : ∀ u, (f u).mgmt = u.mgmt) : BodyMoves fun u => postResult c (l u) (f u) := fun u hb _ hf =>
  (h u).tail (.post _ _ (by rw [hm]; exact hb) (by rw [hm]; exact hf))

theorem bodyMoves_post (c : ResultCode) (l : State → List Byte) : BodyMoves fun u => postResult c (l u) u := fun _ hb _ hf =>
  (Move.post _ _ hb hf).many

theorem bodyMoves_refuse (c : ResultCode) : BodyMoves (refuse c) := bodyMoves_post c fun _ => []

theorem bodyMoves_id : BodyMoves id := fun _ _ _ _ => .refl

theorem BodyMoves.runCommand {body : State → State} (h : BodyMoves body) {len : Nat} {params : List Byte} {s t : State}
    (he : runCommand len params body s = .next t) : Moves s t := by
  cases he
  exact moves_takeCommand _ _ _ _ h

theorem moves_runPlaneCommand {params : List Byte} {body : PlaneId → State → State} {s t : State} (h : ∀ p, BodyMoves (body p))
    (he : runPlaneCommand params body s = .next t) : Moves s t := by
  refine BodyMoves.runCommand ?_ he
  split
  · exact h _
  · exact bodyMoves_refuse _

theorem moves_runPolicySet {value : List Byte} {body : Nat → State → State} {s t : State} (h : ∀ v, BodyMoves (body v))
    (he : runPolicySet value body s = .next t) : Moves s t := by
  cases he
  refine moves_takeCommand _ _ _ _ ?_
  split
  · exact h _
  · exact bodyMoves_id

theorem bodyMoves_storeValue (low high : Nat) (store : Nat → State → State) (v : Nat)
    (h : low ≤ v ∧ v ≤ high → ∀ u, Moves u (store v u)) (hm : ∀ u, (store v u).mgmt = u.mgmt) :
    BodyMoves (storeValue low high store v) := by
  intro u hb hr hf
  refine .ite (fun hv => BodyMoves.posts (l := fun _ => []) (h hv) hm u hb hr hf) fun _ => bodyMoves_refuse _ u hb hr hf

theorem bodyMoves_storeTimeout (v : Nat) : BodyMoves (storeTimeout v) := by
  intro u hb hr hf
  refine .ite (fun hv => ?_) fun _ => bodyMoves_refuse _ u hb hr hf
  have hstored : Moves u { u with planeTimeout := v } :=
    (Move.policies (s := u) { u with planeTimeout := v } (fun ⟨hl, _, hrest⟩ => ⟨hl, hv, hrest⟩) rfl).many
  refine (hstored.tail (.post .done [] hb hf)).trans ?_
  exact Moves.ite (fun _ => moves_foldl expireOverdue moves_expireOverdue allPlanes _) fun _ => .refl

theorem bodyMoves_setService (on : Option Bool) : BodyMoves (setService on) := by
  intro u hb hr hf
  match on with
  | none => exact bodyMoves_refuse _ u hb hr hf
  | some true =>
    refine .ite (fun _ => bodyMoves_refuse _ u hb hr hf) fun h => ?_
    have honline : ∃ p, (u.plane p).state = .online := by
      by_contra hn
      exact h ((onlinePlanes_eq_zero u).mpr fun p hp => hn ⟨p, hp⟩)
    exact (Move.serve honline).many.tail (.post .done [] hb hf)
  | some false => exact Move.halt.many.tail (.post .done [] hb hf)

theorem bodyMoves_setGeometry (code : Nat) : BodyMoves (setGeometry code) := by
  intro u hb hr hf
  refine .ite (fun _ => bodyMoves_refuse _ u hb hr hf) fun hc => .ite (fun _ => bodyMoves_refuse _ u hb hr hf) fun _ => ?_
  exact (Move.geometry code (by omega)).many.tail (.post .done [] hb hf)

theorem bodyMoves_adoptPlane (p : PlaneId) : BodyMoves (adoptPlane p) := by
  intro u hb hr hf
  refine .ite (fun _ => bodyMoves_refuse _ u hb hr hf) fun hc => .ite (fun _ => bodyMoves_refuse _ u hb hr hf) fun _ => ?_
  exact (Move.adopt p (by simpa using (not_or.mp hc).1)).many.tail (.post .done [] hb hf)

theorem bodyMoves_detachPlane (p : PlaneId) : BodyMoves (detachPlane p) := by
  intro u hb hr hf
  refine .ite (fun _ => bodyMoves_refuse _ u hb hr hf) fun hp => .ite (fun _ => bodyMoves_refuse _ u hb hr hf) fun ho => ?_
  have hothers : ∃ q, q ≠ p ∧ (u.plane q).state = .online := by
    by_contra hn
    refine ho ((planeSet_eq_zero _).mpr fun q => ?_)
    by_cases hq : q = p
    · simp [hq]
    · simpa [hq] using fun h => hn ⟨q, hq, h⟩
  exact (Move.detach p hb hr (by simpa using hp) hothers).many.trans (moves_endOfEvent _)

theorem bodyMoves_releasePlane (p : PlaneId) : BodyMoves (releasePlane p) := by
  intro u hb hr hf
  refine .ite (fun _ => bodyMoves_refuse _ u hb hr hf) fun hp => ?_
  exact (Move.unfail p (by simpa using hp)).many.tail (.post .done [] hb hf)

theorem bodyMoves_setEntry (index : Nat) (valid : Byte) (base limit : Nat) (a : Attrs) : BodyMoves (setEntry index valid base limit a) := by
  intro u hb hr hf
  unfold setEntry
  split
  · split
    · next r hreg =>
      obtain ⟨-, hle, hlast, rfl, rfl, -⟩ := (region?_eq_some ..).mp hreg
      exact (Move.region _ r ⟨hle, hlast⟩).many.tail (.post .done [] hb hf)
    · exact bodyMoves_refuse _ u hb hr hf
  · exact .ite (fun _ => (Move.defaults a).many.tail (.post .done [] hb hf)) fun _ => bodyMoves_refuse _ u hb hr hf

theorem bodyMoves_regionSetBody (params : List Byte) : BodyMoves (regionSetBody params) := by
  intro u hb hr hf
  unfold regionSetBody
  split
  · split
    · exact bodyMoves_setEntry _ _ _ _ _ u hb hr hf
    · exact bodyMoves_refuse _ u hb hr hf
  · exact .refl

theorem bodyMoves_dropRecord (seq : Nat) : BodyMoves (dropRecord seq) := by
  intro u hb hr hf
  unfold dropRecord
  split
  · exact (Move.post _ _ hb hf).many
  · next d ds hd =>
    refine .ite (fun _ => ?_) fun _ => (Move.post _ _ hb hf).many
    exact (Move.logCut ds u.log.overflow (by rw [hd]; exact List.suffix_cons ..) le_rfl).many.tail (.post .done [] hb hf)

theorem bodyMoves_clearSuspect (line : Nat) : BodyMoves (clearSuspect line) := by
  intro u hb hr hf
  refine .ite (fun _ => bodyMoves_refuse _ u hb hr hf) fun _ => .ite (fun _ => ?_) fun _ => (Move.post _ _ hb hf).many
  exact (Move.suspectsCut _ List.filter_sublist).many.tail (.post .done [] hb hf)

theorem Inner.mgmt {s t : State} (h : Inner s t) : t.mgmt = s.mgmt := by
  unfold Inner at h
  rw [h]

theorem bodyMoves_abortBody : BodyMoves abortBody := by
  intro u hb hr hf
  unfold abortBody
  split
  · have hm := (inner_enterAborting .abortedCommand u).mgmt
    exact ((Touch.abort (s := u) .abortedCommand).many.moves.tail
      (.post .done [] (by rw [hm]; exact hb) (by rw [hm]; exact hf))).trans (moves_endOfEvent _)
  · exact (Move.post _ _ hb hf).many
  · exact bodyMoves_refuse _ u hb hr hf
  · exact bodyMoves_refuse _ u hb hr hf

/-! ### SWEEP_START (R89, R90) -/

/-- No check of the targets fails exactly where there is one and each is OFFLINE with its link UP. -/
theorem targetRefusal_eq_none (s : State) (g : PlaneSet) :
    targetRefusal s g = none ↔ g ≠ 0 ∧ ∀ p, inSet g p = true → (s.plane p).state = .offline ∧ (s.plane p).link = .up := by
  have hstate : ((planesOf g).any fun p => (s.plane p).state != .offline) = true ↔ ∃ p, inSet g p = true ∧ (s.plane p).state ≠ .offline := by
    simp
  have hlink : ((planesOf g).any fun p => (s.plane p).link != .up) = true ↔ ∃ p, inSet g p = true ∧ (s.plane p).link ≠ .up := by simp
  unfold targetRefusal
  split
  · next h0 => simp [h0]
  · next h0 =>
    split
    · next h =>
      obtain ⟨p, hp, hs⟩ := hstate.mp h
      simpa using fun _ => ⟨p, hp, fun ho => absurd ho hs⟩
    · next hs =>
      rw [hstate] at hs
      push Not at hs
      split
      · next h =>
        obtain ⟨p, hp, hl⟩ := hlink.mp h
        simpa using fun _ => ⟨p, hp, fun _ => hl⟩
      · next hl =>
        rw [hlink] at hl
        push Not at hl
        exact iff_of_true rfl ⟨h0, fun p hp => ⟨hs p hp, hl p hp⟩⟩

theorem jobAccepted_newJob (s : State) (k : JobKind) (x : SweepParams) (he : s.sweep.engine = .idle)
    (h : sweepRefusal s k x = none) : JobAccepted (newJob s k x) s := by
  unfold sweepRefusal at h
  split at h
  · cases h
  next hw =>
    have hwindow : 1 ≤ x.window ∧ x.window ≤ 4 := by omega
    split at h
    · next ht =>
      have htargets : targetRefusal s x.targets = none := by
        cases hr : targetRefusal s x.targets with
        | none => rfl
        | some c => rw [hr] at h; cases h
      refine ⟨he, fun p hp => ?_, ⟨?_, ?_, hwindow, Nat.zero_le _, Nat.zero_le _⟩, rfl⟩
      · exact (((targetRefusal_eq_none s _).mp htargets).2 p (by simpa [newJob, ht] using hp)).1
      · simp [newJob, ht]
      · simp [newJob, ht]
    · next ht =>
      split at h
      · cases h
      · next hr =>
        refine ⟨he, fun p hp => ?_, ⟨?_, ?_, hwindow, Nat.zero_le _, Nat.zero_le _⟩, rfl⟩
        · simp [newJob, ht] at hp
        · simp [newJob, ht]
        · simp [newJob, ht]; omega

theorem enterSyncing_mgmt (l : List PlaneId) (s : State) : (l.foldl enterSyncing s).mgmt = s.mgmt := by
  induction l generalizing s with
  | nil => rfl
  | cons p l ih => exact ih _

theorem moves_startJob (j : Job) (s : State) (h : JobAccepted j s) (hb : s.mgmt.busy = false) (hf : s.mgmt.frame = none) :
    Moves s (startJob j s) := by
  have hm : (jobSet j s).mgmt = s.mgmt := enterSyncing_mgmt ..
  exact ((Move.startJob j h).many.tail (.post .done [j.id] (by rw [hm]; exact hb) (by rw [hm]; exact hf))).tail
    (.acts [.sweepPlace] (by simp [Act.fits]))

theorem bodyMoves_sweepStartBody (x : SweepParams) : BodyMoves (sweepStartBody x) := by
  intro u hb hr hf
  refine .ite (fun _ => bodyMoves_refuse _ u hb hr hf) fun he => ?_
  split
  · exact bodyMoves_refuse _ u hb hr hf
  · split
    · exact bodyMoves_refuse _ u hb hr hf
    · next h => exact moves_startJob _ u (jobAccepted_newJob u _ x (by simpa using he) h) hb hf

end Bodies

/-! ## Rows of the host channel -/

theorem moves_setTag_free {s : State} {t : Tag} (r : Request) (h : s.tag t = .free) : Moves s (s.setTag t (.inWork r)) :=
  (Move.enter t r h).many

theorem moves_produce (t : Tag) (st : Status) (d : LineData) (s : State) : Moves s (produce t st d s) :=
  (Touch.produce t st d).many.moves

theorem ReqKind.claim_ne_sweep (kind : ReqKind) : kind.claim ≠ .sweep := by cases kind <;> simp [claim]

theorem Act.place_host_fits (t : Tag) (kind : ClaimKind) (line : Nat) (h : kind ≠ .sweep) : (Act.place (.host t) kind line).fits := by
  simp [fits, Claim.kindFits, Claim.isSweep, h]

theorem moves_claimStep (t : Tag) (r : Request) (s : State) (h : s.tag t = .free) : Moves s (claimStep t r s) := by
  refine (moves_setTag_free r h).trans ?_
  unfold claimStep
  dsimp only
  split
  · exact (Move.holdBack t _ r.kind.claim_ne_sweep).many
  · refine (Move.acts _ fun a ha => ?_).many
    rw [List.mem_singleton.mp ha]
    exact Act.place_host_fits _ _ _ r.kind.claim_ne_sweep

theorem moves_accept (t : Tag) (kind : ReqKind) (line : Nat) (work : Work) (s : State) (h : s.tag t = .free) :
    Moves s (accept t kind line work s) := by
  refine .ite (fun _ => (moves_setTag_free _ h).trans (moves_produce ..)) fun _ =>
    .ite (fun _ => (moves_setTag_free _ h).trans (moves_produce ..)) fun _ => .ite (fun _ => ?_) fun _ => moves_claimStep _ _ _ h
  exact ((moves_setTag_free _ h).trans (moves_produce ..)).tail (.touch _ (.post _))

theorem moves_leaveAssembly (s : State) : Moves s (leaveAssembly s) := (Move.assembly [] (.inl rfl)).many

theorem moves_arrive (t : Tag) (kind : ReqKind) (line : Nat) (work : Work) (s : State) : Moves s (arrive t kind line work s) := by
  refine .ite (fun _ => .ite (fun _ => (moves_leaveAssembly s).tail (.discard ..)) fun h => ?_) fun _ => .refl
  refine (moves_leaveAssembly s).trans (moves_accept _ _ _ _ _ ?_)
  show s.tag t = .free
  cases htag : s.tag t with
  | free => rfl
  | inWork r => rw [htag] at h; exact absurd rfl h
  | queued r st => rw [htag] at h; exact absurd rfl h

theorem moves_resetHostChannel (s : State) : Moves s (resetHostChannel { s with pins := { s.pins with hrstLow := true } }) := by
  refine (Move.cut.many.tail (.acts _ fun a ha => ?_)).trans (moves_endOfEvent _)
  obtain ⟨k, -, rfl⟩ := List.mem_map.mp ha
  trivial

theorem moves_endAfterRelease (s t : State) : Moves t (endAfterRelease s t) := .ite (fun _ => .refl) fun _ => Move.endAbort.many

/-! ## Every command -/

theorem moves_of_grantOp (p : PlaneId) (s : State) : Moves s ((grantOp p s).getD s) := by
  cases h : grantOp p s with
  | none => exact .refl
  | some u => exact (Touch.grant p u h).many.moves

theorem bodyMoves_storeErrorLimit (v : Nat) : BodyMoves (storeValue 1 255 (fun v s => { s with errorLimit := v }) v) :=
  bodyMoves_storeValue 1 255 _ v (fun hv u => (Move.policies (s := u) { u with errorLimit := v }
    (fun ⟨_, hrest⟩ => ⟨hv, hrest⟩) rfl).many) fun _ => rfl

theorem bodyMoves_storeSweepShare (v : Nat) : BodyMoves (storeValue 1 16 (fun v s => { s with sweepShare := v }) v) :=
  bodyMoves_storeValue 1 16 _ v (fun hv u => (Move.policies (s := u) { u with sweepShare := v }
    (fun ⟨hl, ht, _, hrest⟩ => ⟨hl, ht, hv, hrest⟩) rfl).many) fun _ => rfl

theorem bodyMoves_storeLogMode (v : Nat) : BodyMoves (storeValue 0 1 (fun v s =>
    { s with log := { s.log with mode := if v = 0 then .keepOldest else .keepNewest } }) v) :=
  bodyMoves_storeValue 0 1 _ v (fun _ u => (Move.policies (s := u)
    { u with log := { u.log with mode := if v = 0 then .keepOldest else .keepNewest } } (fun h => h) rfl).many) fun _ => rfl

theorem bodyMoves_storeLogThreshold (v : Nat) :
    BodyMoves (storeValue 1 64 (fun v s => { s with log := { s.log with threshold := v } }) v) :=
  bodyMoves_storeValue 1 64 _ v (fun hv u => (Move.policies (s := u) { u with log := { u.log with threshold := v } }
    (fun ⟨hl, ht, hs, _, hg⟩ => ⟨hl, ht, hs, hv, hg⟩) rfl).many) fun _ => rfl

theorem bodyMoves_storeAlertMask (v : Nat) : BodyMoves fun s => postResult .done [] { s with alertMask := BitVec.ofNat 7 v } :=
  BodyMoves.posts (f := fun s => { s with alertMask := BitVec.ofNat 7 v }) (l := fun _ => [])
    (fun u => (Move.policies (s := u) { u with alertMask := BitVec.ofNat 7 v } (fun h => h) rfl).many) fun _ => rfl

theorem moves_statusFrame (n : Nat) (stillOpen : Bool) (s : State) : Moves s (takeFrame n stillOpen statusType s) :=
  moves_takeFrame n stillOpen _ s (fun l _ => by cases l <;> trivial) fun _ u hu => moves_rejected u (by rw [hu]) (by rw [hu]) false

theorem moves_resultFrame (n m : Nat) (stillOpen : Bool) (s : State) : Moves s (takeFrame n stillOpen (resultType m) s) := by
  refine moves_takeFrame n stillOpen _ s (fun l hl => ?_) fun l u hu => ?_
  · have hnow : Latch.holds s (.result s.mgmt.result) := by
      cases h : s.mgmt.result with
      | none => trivial
      | some r => exact h
    cases l with
    | result r => exact hl
    | nothing | status _ | completion _ => exact hnow
  · dsimp only [resultType]
    split
    · refine .ite (fun _ => ?_) fun _ => .refl
      exact (Move.frame { u.mgmt with result := none } rfl (.inr rfl) fun _ => framesSound_ended u _ (by rw [hu]) (by rw [hu])).many
    · exact .refl

theorem moves_completionFrame (n m : Nat) (stillOpen : Bool) (s : State) : Moves s (takeFrame n stillOpen (completionType m) s) := by
  refine moves_takeFrame n stillOpen _ s (fun l hl => ?_) fun l u hu => ?_
  · have hnow : Latch.holds s (.completion s.sweep.completions.head?) := by
      cases h : s.sweep.completions.head? with
      | none => trivial
      | some c => exact h
    cases l with
    | completion c => exact hl
    | nothing | status _ | result _ => exact hnow
  · dsimp only [completionType]
    split
    · exact .ite (fun _ => (Move.dropCompletion (by rw [hu])).many) fun _ => .refl
    · exact .refl

theorem moves_assemble (content : List Byte) (s : State) : Moves s (assemble content s) := by
  unfold assemble
  split
  · next b l hf =>
    exact (Move.frame { s.mgmt with assembly := content } rfl (.inl rfl) fun ⟨hreset, _, hresult, hcompletion⟩ =>
      ⟨hreset, fun _ => ⟨_, hf, by simp⟩, hresult, hcompletion⟩).many
  · exact .refl

theorem moves_holdTransfers (held : List Transfer) (s : State) (h : held.length < 6) : Moves s (holdTransfers held s) :=
  .ite (fun hr => (Move.assembly held (.inr ⟨hr, h⟩)).many) fun _ => .refl

theorem moves_next {s t u : State} (h : (Host.Outcome.next u : Host.Outcome State Fault Refusal) = .next t) (hu : Moves s u) : Moves s t := by
  cases h
  exact hu

/-- A command that runs is a run of moves. -/
theorem exec_moves (i : Instr) (s t : State) (h : exec i s = .next t) : Moves s t := by
  cases i with
  -- the host channel
  | read tag line => exact moves_next h ((moves_quiet s).trans (moves_arrive ..))
  | write tag line mask data =>
    cases data with
    | whole d => exact moves_next h ((moves_quiet s).trans (moves_arrive ..))
    | partly held d =>
      refine moves_next h ?_
      refine (moves_quiet s).trans (moves_holdTransfers _ _ ?_)
      rw [List.length_take, writeTransfers_length]
      omega
  | unknownKindDiscard kind tag =>
    simp only [exec, execUnknownKindDiscard] at h
    split at h
    · cases h
    refine moves_next h ?_
    exact (moves_quiet s).trans (Moves.ite (fun _ => (moves_leaveAssembly _).tail (.discard ..)) fun _ => .refl)
  | responseTaken => exact moves_next h ((moves_quiet s).tail .takeHead)
  | hostChannelReset =>
    simp only [exec, execHostChannelReset] at h
    split at h
    · exact moves_next h (moves_quiet s)
    · exact moves_next h ((moves_quiet s).trans (moves_resetHostChannel s.quiet))
  | hrstRising => exact moves_next h ((moves_quiet s).tail .hrstRising)
  | powerOnReset => exact moves_next h (Move.powerOn.many)
  | powerOnResetEnd =>
    refine moves_next h ?_
    exact .ite (fun _ => (moves_quiet s).tail .powerOnEnd) fun _ => moves_quiet s
  -- the plane links
  | lrdyRising plane => exact moves_next h ((moves_quiet s).tail (.lrdy plane true))
  | lrdyFalling plane =>
    refine moves_next h ?_
    exact (((moves_quiet s).tail (.lrdy plane false)).tail (.fail plane .linkLost)).trans (moves_endOfEvent _)
  | readResponse plane slot gen status data => exact moves_next h ((moves_quiet s).trans (moves_takeResponse ..))
  | writeResponse plane slot gen status => exact moves_next h ((moves_quiet s).trans (moves_takeResponse ..))
  | unknownKindResponse plane slot gen kind status =>
    simp only [exec, execUnknownKindResponse] at h
    split at h
    · cases h
    refine moves_next h ?_
    exact (moves_quiet s).trans (moves_takeResponse ..)
  | planeTimeoutExpiry plane => exact moves_next h ((moves_quiet s).trans (moves_expireInTurn ..))
  -- steps inside the part
  | issue plane => exact moves_next h ((moves_quiet s).trans (moves_of_grantOp plane s.quiet))
  | grant line =>
    refine moves_next h ?_
    exact (((moves_quiet s).tail (.grantLine line.toNat)).trans (moves_starts ..)).trans (moves_endAfterRelease ..)
  | heldBackClaim tag => exact moves_next h ((moves_quiet s).tail (.acts [.placeHeld tag] (by simp [Act.fits])))
  | sweepClaim => exact moves_next h ((moves_quiet s).tail (.acts [.sweepPlace] (by simp [Act.fits])))
  | abortEnd => exact moves_next h ((moves_quiet s).tail .endAbort)
  | jobComplete => exact moves_next h ((moves_quiet s).tail .complete)
  | endingRecordPlaced => exact moves_next h ((moves_quiet s).tail .placeWaiting)
  | detachDrainEnd plane => exact moves_next h ((moves_quiet s).tail (.drain plane))
  -- frames
  | statusFrame bytes => exact moves_next h (moves_statusFrame ..)
  | resultFrame bytes => exact moves_next h (moves_resultFrame ..)
  | completionFrame bytes => exact moves_next h (moves_completionFrame ..)
  | frameRejected frameType bytes =>
    simp only [exec, execFrameRejected] at h
    split at h
    · cases h
    refine moves_next h ?_
    exact moves_takeFrame _ _ _ s (fun _ _ => trivial) fun _ u hu => moves_rejected u (by rw [hu]) (by rw [hu]) true
  | unknownCommand content =>
    simp only [exec, execUnknownCommand] at h
    split at h
    · exact moves_next h ((moves_takeFrame _ true (silentFrame id) s (fun _ _ => trivial) fun _ _ _ => .refl).trans (moves_assemble ..))
    · split at h
      · exact moves_next h (moves_takeCommand _ _ _ _ (bodyMoves_refuse _))
      · cases h
  -- COMMAND frames
  | deviceQuery params => exact BodyMoves.runCommand (bodyMoves_post _ _) h
  | serviceSet params => exact (bodyMoves_setService _).runCommand h
  | geometrySet params => exact (bodyMoves_setGeometry _).runCommand h
  | planeStatus params => exact moves_runPlaneCommand (fun p => bodyMoves_post .done fun s => planeBytes (s.plane p)) h
  | planeAdopt params => exact moves_runPlaneCommand bodyMoves_adoptPlane h
  | planeDetach params => exact moves_runPlaneCommand bodyMoves_detachPlane h
  | planeRelease params => exact moves_runPlaneCommand bodyMoves_releasePlane h
  | regionSet params => exact (bodyMoves_regionSetBody _).runCommand h
  | regionGet params =>
    refine BodyMoves.runCommand (fun u hb hr hf => ?_) h
    unfold getEntry
    split
    · exact (Move.post _ _ hb hf).many
    · exact .ite (fun _ => (Move.post _ _ hb hf).many) fun _ => bodyMoves_refuse _ u hb hr hf
  | policySetErrorLimit value => exact moves_runPolicySet bodyMoves_storeErrorLimit h
  | policySetPlaneTimeout value => exact moves_runPolicySet bodyMoves_storeTimeout h
  | policySetSweepShare value => exact moves_runPolicySet bodyMoves_storeSweepShare h
  | policySetLogMode value => exact moves_runPolicySet bodyMoves_storeLogMode h
  | policySetLogThreshold value => exact moves_runPolicySet bodyMoves_storeLogThreshold h
  | policySetAlertMask value => exact moves_runPolicySet bodyMoves_storeAlertMask h
  | policyGet params =>
    refine BodyMoves.runCommand (fun u hb hr hf => ?_) h
    unfold getPolicy
    split
    · exact (Move.post _ _ hb hf).many
    · exact bodyMoves_refuse _ u hb hr hf
  | sweepStart params =>
    refine BodyMoves.runCommand ?_ h
    split
    · exact bodyMoves_sweepStartBody _
    · exact bodyMoves_id
  | sweepAbort params => exact bodyMoves_abortBody.runCommand h
  | sweepStatus params => exact BodyMoves.runCommand (bodyMoves_post _ _) h
  | logStatus params => exact BodyMoves.runCommand (bodyMoves_post _ _) h
  | logPeek params =>
    refine BodyMoves.runCommand (fun u hb hr hf => ?_) h
    split <;> exact (Move.post _ _ hb hf).many
  | logDrop params =>
    refine BodyMoves.runCommand ?_ h
    split
    · exact bodyMoves_dropRecord _
    · exact bodyMoves_id
  | logClear params =>
    exact BodyMoves.runCommand (fun u hb hr hf =>
      (Move.logCut (s := u) [] 0 (List.nil_suffix ..) (Nat.zero_le _)).many.tail (.post .done [] hb hf)) h
  | suspectRead params =>
    refine BodyMoves.runCommand (fun u hb hr hf => ?_) h
    refine .ite (fun _ => bodyMoves_refuse _ u hb hr hf) fun _ => ?_
    split <;> exact (Move.post _ _ hb hf).many
  | suspectClear params =>
    refine BodyMoves.runCommand ?_ h
    split
    · exact bodyMoves_clearSuspect _
    · exact bodyMoves_id
  | suspectClearAll params =>
    exact BodyMoves.runCommand (fun u hb hr hf =>
      (Move.suspectsCut (s := u) [] (List.nil_sublist _)).many.tail (.post .done [] hb hf)) h
  | alertQuery params => exact BodyMoves.runCommand (bodyMoves_post _ _) h
  | alertAck params =>
    exact BodyMoves.runCommand (fun u hb hr hf => (Move.acknowledge (s := u) _).many.tail (.post .done [] hb hf)) h

/-- What every move keeps and the queue of commands does not matter to, every step keeps. -/
theorem step_keeps (P : State → Prop) (hmove : ∀ s t, Move s t → P s → P t) (hpending : ∀ s l, P s → P { s with pending := l })
    (s t : State) (hs : P s) (h : step s = .next t) : P t := by
  unfold step at h
  split at h
  · cases h
    exact Moves.keeps hmove ((moves_quiet s).trans (moves_passTime _)) hs
  · exact Moves.keeps hmove (exec_moves _ _ t h) (hpending s _ hs)

end Sys2Proof.Machine
end

section
/-! PROOFS. The shapes of the compound moves: what each of them writes, case by case; and how an invariant of the acts of an event
becomes one of a plane's failure. No command writes the queue of commands. -/

namespace Sys2Proof.Machine

/-! ## Compound moves -/

theorem drainPlane_cases (s : State) (p : PlaneId) :
    drainPlane s p = s ∨ (s.plane p).state = .detaching ∧ (s.port p).isEmpty = true ∧
      drainPlane s p = postResult .done [] (s.setPlane p { s.plane p with state := .offline }) := by
  unfold drainPlane
  split
  · next h => exact .inr ⟨h.1, h.2, rfl⟩
  · exact .inl rfl

theorem completeJob_cases (s : State) :
    completeJob s = s ∨ ∃ j, s.sweep.engine = .running ∧ s.sweep.job = some j ∧ noSlotInFlight s = true ∧ j.last < j.cursor ∧
      completeJob s = endJob j .complete s := by
  unfold completeJob
  split
  · next j he hj =>
    split
    · next h => exact .inr ⟨j, he, hj, h.2, h.1, rfl⟩
    · exact .inl rfl
  · exact .inl rfl

theorem endAbort_cases (s : State) :
    endAbort s = s ∨ ∃ j o, s.sweep.engine = .aborting ∧ s.sweep.job = some j ∧ j.outcome = some o ∧ noSlotInFlight s = true ∧
      targetsDrained s j = true ∧ endAbort s = endJob j o s := by
  unfold endAbort
  split
  · next j he hj =>
    split
    · next o ho =>
      split
      · next h => exact .inr ⟨j, o, he, hj, ho, h.1, h.2, rfl⟩
      · exact .inl rfl
    · exact .inl rfl
  · exact .inl rfl

/-- The sweep engine after a job's end (R110). -/
def Sweep.ended (j : Job) (o : JobOutcome) (w : Sweep) : Sweep :=
  if w.completions.length < Config.completionPlaces then
    { w with engine := .idle, job := some { j with outcome := some o }, completions := w.completions ++ [completionOf j o] }
  else { w with engine := .ending, job := some { j with outcome := some o }, waiting := some (completionOf j o) }

/-- The end of a job writes plane records and the sweep engine alone. -/
theorem endJob_shape (j : Job) (o : JobOutcome) (s : State) :
    ∃ planes, endJob j o s = { s with planes := planes, sweep := s.sweep.ended j o } := by
  obtain ⟨planes, h⟩ := endJob_frame j o s
  refine ⟨planes, h.trans ?_⟩
  unfold storeCompletion Sweep.ended
  split
  · next hl => rw [if_pos (by exact hl)]; rfl
  · next hl => rw [if_neg (by exact hl)]; rfl

theorem placeWaiting_cases (s : State) :
    placeWaiting s = s ∨ ∃ c, s.sweep.engine = .ending ∧ s.sweep.waiting = some c ∧
      s.sweep.completions.length < Config.completionPlaces ∧ placeWaiting s =
        { s with sweep := { s.sweep with completions := s.sweep.completions ++ [c], waiting := none, engine := .idle } } := by
  unfold placeWaiting
  split
  · next c he hw =>
    split
    · next h => exact .inr ⟨c, he, hw, h, rfl⟩
    · exact .inl rfl
  · exact .inl rfl

theorem placeNext_cases (s : State) :
    placeNext s = (s, []) ∨ ∃ j k, s.sweep.engine = .running ∧ s.sweep.job = some j ∧ freeSlot s = some k ∧ j.cursor ≤ j.last ∧
      (slotsInFlight s).length < j.window ∧
      placeNext s = ((s.setSlot k (some { line := j.cursor })).setJob { j with cursor := j.cursor + 1 },
        [.place (.slot k) .sweep j.cursor, .sweepPlace]) := by
  unfold placeNext
  split
  · next j k he hj hk =>
    split
    · next h => exact .inr ⟨j, k, he, hj, hk, h.1, h.2, rfl⟩
    · exact .inl rfl
  · exact .inl rfl

theorem placeHeldBack_cases (t : Tag) (s : State) :
    placeHeldBack t s = (s, []) ∨ ∃ c, (s.position t).kept = none ∧ (s.position t).heldBack = some c ∧
      placeHeldBack t s = (s.setPosition t { s.position t with heldBack := none }, [.place (.host t) c.kind c.line]) := by
  unfold placeHeldBack
  split
  · next c hk hc => exact .inr ⟨c, hk, hc, rfl⟩
  · exact .inl rfl

theorem enterAborting_cases (o : JobOutcome) (s : State) :
    enterAborting o s = s ∨ s.sweep.engine = .running ∧
      ((∃ j, s.sweep.job = some j ∧ enterAborting o s =
        { s with sweep := { s.sweep with engine := .aborting, job := some { j with outcome := some o } } }) ∨
      s.sweep.job = none ∧ enterAborting o s = { s with sweep := { s.sweep with engine := .aborting } }) := by
  unfold enterAborting
  split
  · next he =>
    split
    · next j hj => exact .inr ⟨he, .inl ⟨j, hj, rfl⟩⟩
    · next hj => exact .inr ⟨he, .inr ⟨hj, rfl⟩⟩
  · exact .inl rfl

/-- A failure's first steps write the plane's record, its port and the sweep engine. -/
theorem failFirst_shape (p : PlaneId) (c : FailCause) (s : State) :
    failFirst p c s = (s.setPlane p (failedRecord (s.plane p) c)).setPort p (s.port p).flushed ∨
      ∃ o, failFirst p c s = (enterAborting o (s.setPlane p (failedRecord (s.plane p) c))).setPort p (s.port p).flushed := by
  unfold failFirst abortOnFailure
  split
  · split
    · exact .inr ⟨_, rfl⟩
    · split
      · exact .inr ⟨_, rfl⟩
      · exact .inl rfl
  · exact .inl rfl

theorem freeTag_cases (t : Tag) (s : State) :
    s.tag t = .free ∧ freeTag t s = s ∨ freeTag t s = s.setTag t .free ∨
      ∃ r, (s.tag t).request = some r ∧ freeTag t s = (s.setPosition t { s.position t with kept := some r }).setTag t .free := by
  unfold freeTag
  split
  · next r hr =>
    split
    · exact .inr (.inr ⟨r, hr, rfl⟩)
    · exact .inr (.inl rfl)
  · next h =>
    refine .inl ⟨?_, rfl⟩
    cases htag : s.tag t with
    | free => rfl
    | inWork r | queued r _ => rw [htag] at h; cases h

theorem takeHead_cases (s : State) :
    takeHead s = s ∨ ∃ x rest, s.responses = x :: rest ∧ requestReady s = true ∧
      takeHead s = freeTag x.tag { s with responses := rest, out := { s.out with response := some x } } := by
  unfold takeHead
  split
  · exact .inl rfl
  · next x rest h =>
    split
    · next hr => exact .inr ⟨x, rest, h, hr, rfl⟩
    · exact .inl rfl

theorem foldl_enterSyncing_shape (l : List PlaneId) (s : State) :
    ∃ planes, l.foldl enterSyncing s = { s with planes := planes } := by
  induction l generalizing s with
  | nil => exact ⟨_, rfl⟩
  | cons p l ih =>
    obtain ⟨planes, h⟩ := ih (enterSyncing s p)
    exact ⟨planes, h⟩

theorem jobSet_shape (j : Job) (s : State) :
    ∃ planes, jobSet j s =
      { s with planes := planes, sweep := { s.sweep with job := some j, jobCounter := j.id, engine := .running } } := by
  obtain ⟨planes, h⟩ := foldl_enterSyncing_shape (planesOf j.targets) s
  exact ⟨planes, by unfold jobSet; rw [h]⟩

/-! ## The channel cut off -/

theorem foldl_postRecord_shape (l : List RecBody) (s : State) :
    ∃ log sticky, l.foldl (fun s b => postRecord b s) s = { s with log := log, sticky := sticky } := by
  induction l generalizing s with
  | nil => exact ⟨_, _, rfl⟩
  | cons b l ih =>
    obtain ⟨log, sticky, h⟩ := ih (postRecord b s)
    refine ⟨log, sticky, h.trans ?_⟩
    rw [postRecord_frame]

theorem cutOffTag_shape (s : State) (t : Tag) :
    ∃ positions log sticky, cutOffTag s t = { s with positions := positions, log := log, sticky := sticky } := by
  unfold cutOffTag
  split
  · split
    · split
      · exact ⟨_, _, _, rfl⟩
      · obtain ⟨log, sticky, h⟩ := foldl_postRecord_shape (orphanRecords t _ (unissuedPlanes s t)) _
        exact ⟨_, log, sticky, h⟩
    · exact ⟨_, _, _, rfl⟩
  · exact ⟨_, _, _, rfl⟩

theorem foldl_cutOffTag_shape (l : List Tag) (s : State) :
    ∃ positions log sticky, l.foldl cutOffTag s = { s with positions := positions, log := log, sticky := sticky } := by
  induction l generalizing s with
  | nil => exact ⟨_, _, _, rfl⟩
  | cons t l ih =>
    obtain ⟨positions, log, sticky, h⟩ := ih (cutOffTag s t)
    obtain ⟨positions', log', sticky', h'⟩ := cutOffTag_shape s t
    exact ⟨positions, log, sticky, by rw [List.foldl_cons, h, h']⟩

theorem foldl_dropSettled_shape (l : List Tag) (s : State) : ∃ positions, l.foldl dropSettled s = { s with positions := positions } := by
  induction l generalizing s with
  | nil => exact ⟨_, rfl⟩
  | cons t l ih =>
    obtain ⟨positions, h⟩ := ih (dropSettled s t)
    refine ⟨positions, h.trans ?_⟩
    unfold dropSettled
    split <;> rfl

theorem foldl_clearHostList_shape (l : List PlaneId) (s : State) : ∃ ports, l.foldl clearHostList s = { s with ports := ports } := by
  induction l generalizing s with
  | nil => exact ⟨_, rfl⟩
  | cons p l ih =>
    obtain ⟨ports, h⟩ := ih (clearHostList s p)
    exact ⟨ports, h⟩

/-- The cut writes the host channel, the lock table, the host-side lists and the log's two fields, and nothing else. -/
theorem channelCut_shape (s : State) :
    ∃ positions ports, channelCut s = { s with
      positions := positions, ports := ports
      locks := (lockCutOff (releasedAtReset (clearChannel (allTags.foldl cutOffTag s))) s.locks).1
      log := (allTags.foldl cutOffTag s).log, sticky := (allTags.foldl cutOffTag s).sticky
      tags := Vector.replicate 32 .free, responses := [], requestAssembly := [] } := by
  obtain ⟨positions, log, sticky, h⟩ := foldl_cutOffTag_shape allTags s
  unfold channelCut
  dsimp only
  generalize allTags.foldl cutOffTag s = u at h
  generalize hr : releasedAtReset (clearChannel u) = released
  obtain ⟨positions', h'⟩ := foldl_dropSettled_shape allTags { clearChannel u with locks := (lockCutOff released (clearChannel u).locks).1 }
  rw [h']
  obtain ⟨ports, h''⟩ := foldl_clearHostList_shape allPlanes { clearChannel u with
    locks := (lockCutOff released (clearChannel u).locks).1, positions := positions' }
  refine ⟨positions', ports, h''.trans ?_⟩
  rw [h]
  rfl

/-- What a host channel reset keeps at a position: an orphan's request, or a holder's with its unissued ops withdrawn (R33). -/
def keptAtCut (s : State) (t : Tag) : Option Request :=
  if holdsLine s (.host t) then
    (requestAt s t).map fun r => if r.isOrphan then r else r.cutOff (unissuedPlanes s t)
  else none

theorem cutOffTag_position (s : State) (t u : Tag) :
    (cutOffTag s t).position u = if u = t then { kept := keptAtCut s t, heldBack := none } else s.position u := by
  unfold cutOffTag keptAtCut
  split
  · split
    · next r hr =>
      rw [hr]
      split
      · next ho => rw [State.setPosition_position]; simp [ho]
      · next ho =>
        dsimp only
        generalize hx : s.setPosition t { kept := some (r.cutOff (unissuedPlanes s t)), heldBack := none } = x
        obtain ⟨log, sticky, h⟩ := foldl_postRecord_shape (orphanRecords t r (unissuedPlanes s t)) x
        rw [h]
        show x.position u = _
        rw [← hx, State.setPosition_position]
        simp [ho]
    · next hr => rw [hr, State.setPosition_position]; rfl
  · rw [State.setPosition_position]

/-- A cut at one tag leaves what a cut at another tag reads. -/
theorem keptAtCut_cutOffTag (s : State) (t u : Tag) (h : u ≠ t) : keptAtCut (cutOffTag s t) u = keptAtCut s u := by
  have hp := cutOffTag_position s t u
  rw [if_neg h] at hp
  obtain ⟨positions, log, sticky, he⟩ := cutOffTag_shape s t
  rw [he] at hp ⊢
  have hat : requestAt { s with positions := positions, log := log, sticky := sticky } u = requestAt s u := by
    unfold requestAt
    rw [hp]
    rfl
  unfold keptAtCut
  rw [hat]
  rfl

theorem foldl_cutOffTag_position (l : List Tag) (hl : l.Nodup) (s : State) (u : Tag) :
    (l.foldl cutOffTag s).position u = if u ∈ l then { kept := keptAtCut s u, heldBack := none } else s.position u := by
  induction l generalizing s with
  | nil => rfl
  | cons t l ih =>
    obtain ⟨ht, hl⟩ := List.nodup_cons.mp hl
    rw [List.foldl_cons, ih hl]
    by_cases h : u = t
    · subst h
      rw [if_neg ht, if_pos List.mem_cons_self, cutOffTag_position, if_pos rfl]
    · rw [keptAtCut_cutOffTag s t u h, cutOffTag_position, if_neg h]
      simp [h]

/-- A position less the request of an orphan that releases in the reset event. -/
def HostPos.dropped (x : HostPos) : HostPos := { x with kept := x.kept.filter fun r => !r.settled }

theorem HostPos.dropped_dropped (x : HostPos) : x.dropped.dropped = x.dropped := by
  obtain ⟨kept, heldBack⟩ := x
  cases kept with
  | none => rfl
  | some r => cases h : r.settled <;> simp [dropped, Option.filter, h]

theorem dropSettled_position (s : State) (t u : Tag) :
    (dropSettled s t).position u = if u = t then (s.position u).dropped else s.position u := by
  unfold dropSettled
  by_cases h : u = t
  · subst h
    rw [if_pos rfl]
    generalize hx : s.position u = x
    obtain ⟨kept, heldBack⟩ := x
    cases kept with
    | none => simp [releasedAtReset, hx, HostPos.dropped]
    | some r => cases hr : r.settled <;> simp [releasedAtReset, hx, hr, HostPos.dropped, Option.filter]
  · split <;> simp [h, State.setPosition_position]

theorem foldl_dropSettled_position (l : List Tag) (s : State) (u : Tag) :
    (l.foldl dropSettled s).position u = if u ∈ l then (s.position u).dropped else s.position u := by
  induction l generalizing s with
  | nil => rfl
  | cons t l ih =>
    rw [List.foldl_cons, ih, dropSettled_position]
    by_cases h : u = t <;> by_cases hm : u ∈ l <;> simp [h, hm, HostPos.dropped_dropped]

/-- What the cut leaves at each position: the request of an orphan with an op left, and nothing else (R33). -/
theorem channelCut_position (s : State) (u : Tag) :
    (channelCut s).position u = { kept := (keptAtCut s u).filter fun r => !r.settled, heldBack := none } := by
  have hcut := foldl_cutOffTag_position allTags (List.nodup_finRange 32) s u
  rw [if_pos (mem_allTags u)] at hcut
  unfold channelCut
  dsimp only
  generalize allTags.foldl cutOffTag s = v at hcut
  generalize hw : ({ clearChannel v with locks := (lockCutOff (releasedAtReset (clearChannel v)) (clearChannel v).locks).1 } : State) = w
  have hdropped := foldl_dropSettled_position allTags w u
  rw [if_pos (mem_allTags u)] at hdropped
  generalize allTags.foldl dropSettled w = x at hdropped
  obtain ⟨ports, h⟩ := foldl_clearHostList_shape allPlanes x
  rw [h]
  refine hdropped.trans ?_
  have hwu : w.position u = v.position u := by rw [← hw]; rfl
  rw [hwu, hcut]
  rfl

theorem foldl_clearHostList_port (l : List PlaneId) (s : State) (p : PlaneId) :
    (l.foldl clearHostList s).port p = if p ∈ l then { s.port p with hostList := [] } else s.port p := by
  induction l generalizing s with
  | nil => rfl
  | cons q l ih =>
    have hstep : (clearHostList s q).port p = if p = q then { s.port p with hostList := [] } else s.port p := by
      unfold clearHostList
      rw [State.setPort_port]
      split
      · next h => rw [h]
      · rfl
    rw [List.foldl_cons, ih, hstep]
    by_cases h : p = q <;> by_cases hm : p ∈ l <;> simp [h, hm]

/-- The cut empties the host-side lists and leaves the rest of each port (R150). -/
theorem channelCut_port (s : State) (p : PlaneId) : (channelCut s).port p = { s.port p with hostList := [] } := by
  obtain ⟨positions, log, sticky, h⟩ := foldl_cutOffTag_shape allTags s
  unfold channelCut
  dsimp only
  rw [foldl_clearHostList_port, if_pos (mem_allPlanes p)]
  generalize allTags.foldl cutOffTag s = u at h
  obtain ⟨positions', h'⟩ := foldl_dropSettled_shape allTags
    { clearChannel u with locks := (lockCutOff (releasedAtReset (clearChannel u)) (clearChannel u).locks).1 }
  rw [h', h]
  rfl

theorem poweredOn_port (s : State) (p : PlaneId) : (poweredOn s).port p = resetPort := by
  simp [poweredOn, sampleLinks, State.reset, State.port]

/-! ## Failures -/

/-- A failure keeps what its parts keep: its first steps, the acts, the record and the alert causes, and the results it posts. -/
theorem failPlane_closed (P : State → Prop) (p : PlaneId) (c : FailCause) (s : State)
    (hacts : ∀ acts s, (∀ a ∈ acts, a.fits) → P s → P (settleActs acts s)) (hr : ∀ b s, P s → P (postRecord b s))
    (hs : ∀ c s, c = causePlaneFailed ∨ c = causeServiceLost → P s → P (setSticky c s))
    (hh : ∀ s, P s → P { s with service := .halted })
    (hm : (s.plane p).state = .detaching → ∀ u, P u → P (postResult .planeFailed [] u))
    (h1 : P (failFirst p c s)) (h : P s) : P (failPlane p c s) := by
  unfold failPlane
  dsimp only
  split
  · have hlost : ∀ a ∈ (s.port p).allOps.map fun op => Act.deliver op p .lost, a.fits := by
      intro a ha
      obtain ⟨op, -, rfl⟩ := List.mem_map.mp ha
      trivial
    have h3 := hs causePlaneFailed _ (.inl rfl) (hr (failureRecord p c) _ (hacts _ _ hlost h1))
    unfold failDetach haltService
    split
    · next hd =>
      refine hm hd _ ?_
      split
      · exact hs _ _ (.inr rfl) (hh _ h3)
      · exact h3
    · split
      · exact hs _ _ (.inr rfl) (hh _ h3)
      · exact h3
  · exact h

/-! ## The queue of commands -/

theorem settleActs_pending (acts : List Act) (s : State) : (settleActs acts s).pending = s.pending := by
  rw [show settleActs acts s = _ from inner_settleActs acts s]

theorem failFirst_pending (p : PlaneId) (c : FailCause) (s : State) : (failFirst p c s).pending = s.pending := by
  rcases failFirst_shape p c s with h | ⟨o, h⟩ <;> rw [h]
  · rfl
  · rw [State.setPort_pending, show enterAborting o _ = _ from inner_enterAborting o _, State.setPlane_pending]

theorem failPlane_pending (p : PlaneId) (c : FailCause) (s : State) : (failPlane p c s).pending = s.pending :=
  failPlane_closed (fun u => u.pending = s.pending) p c s (fun acts u _ hu => (settleActs_pending acts u).trans hu)
    (fun b u hu => by rw [postRecord_frame]; exact hu) (fun _ _ _ hu => hu) (fun _ hu => hu) (fun _ _ hu => hu) (failFirst_pending p c s) rfl

theorem Inner.pending {s t : State} (h : Inner s t) : t.pending = s.pending := by
  unfold Inner at h
  rw [h]

theorem Touch.pending {s t : State} (h : Touch s t) : t.pending = s.pending := by
  cases h with
  | request t r k hk hr => exact (inner_setRequest t r s).pending
  | produce t st d => exact (inner_produce t st d s).pending
  | post b => exact (inner_postRecord b s).pending
  | suspect e => exact (inner_addSuspect e s).pending
  | grant p u h => obtain ⟨-, q, ops, -, rfl⟩ := grantOp_cases p s _ h; rfl
  | abort o => exact (inner_enterAborting o s).pending
  | unsuspect _ | rotate _ | enlist _ _ | slot _ _ _ | count _ _ _ _ => rfl

theorem Move.pending (s t : State) (h : Move s t) : t.pending = s.pending := by
  cases h with
  | touch u h => exact h.pending
  | acts acts h => exact settleActs_pending acts s
  | fail p c => exact failPlane_pending p c s
  | countError p h =>
    unfold countDataError
    dsimp only
    split
    · exact failPlane_pending _ _ _
    · rfl
  | drain p => rcases drainPlane_cases s p with h | ⟨-, -, h⟩ <;> rw [h]; rfl
  | endAbort => exact (inner_endAbort s).pending
  | complete => exact (inner_completeJob s).pending
  | dropCompletion hf => rcases placeWaiting_cases (Machine.dropCompletion s) with h | ⟨c, -, -, -, h⟩ <;> rw [h] <;> rfl
  | placeWaiting => rcases placeWaiting_cases s with h | ⟨c, -, -, -, h⟩ <;> rw [h]
  | policies u hr hu => rw [hu]
  | startJob j h => obtain ⟨planes, he⟩ := jobSet_shape j s; rw [he]
  | takeHead =>
    rcases takeHead_cases s with h | ⟨x, rest, -, -, h⟩ <;> rw [h]
    rcases freeTag_cases x.tag { s with responses := rest, out := { s.out with response := some x } } with
      ⟨-, h⟩ | h | ⟨r, -, h⟩ <;> rw [h] <;> rfl
  | cut => obtain ⟨_, _, h⟩ := channelCut_shape { s with pins := { s.pins with hrstLow := true } }; rw [h]
  | _ => rfl

/-- Settles O2: no move of a command writes the queue. -/
theorem queueUntouched : Obligations.QueueUntouched := fun c s t h =>
  Moves.keeps (P := fun u => u.pending = s.pending) (fun u v huv hu => (Move.pending u v huv).trans hu) (exec_moves c s t h) rfl

end Sys2Proof.Machine
end

section
/-! PROOFS. The plane ports and the policy values through every step (R132, R134, R146 to R149): a port is sound by itself, and each
operation on a port keeps it so. -/

namespace Sys2Proof.Machine

/-! ## One port -/

/-- What `PortsSound` says of one port. -/
structure Port.Sound (now : Nat) (q : Port) : Prop where
  places : q.queue.length ≤ Config.queuePlaces
  slots : slotsEndAt q.nextSlot q.gen q.queue = true
  order : (q.queue.map QueuedOp.issuedAt).Pairwise (· ≤ ·)
  issued : ∀ x ∈ q.queue, x.issuedAt ≤ now
  grants : q.hostGrants ≤ 16
  noSweep : q.sweepList = [] → q.hostGrants = 0

theorem portsSound_iff (s : State) : PortsSound s ↔ ∀ p, (s.port p).Sound s.now :=
  ⟨fun h p => let ⟨a, b, c, d, e, f⟩ := h p; ⟨a, b, c, d, e, f⟩, fun h p => let ⟨a, b, c, d, e, f⟩ := h p; ⟨a, b, c, d, e, f⟩⟩

theorem Port.Sound.mono {now later : Nat} {q : Port} (h : q.Sound now) (hl : now ≤ later) : q.Sound later :=
  { h with issued := fun x hx => (h.issued x hx).trans hl }

theorem Port.Sound.of_empty {now : Nat} {q : Port} (hq : q.queue = []) (hg : q.hostGrants = 0) : q.Sound now := by
  refine ⟨?_, ?_, ?_, ?_, ?_, fun _ => hg⟩ <;> simp [hq, hg, slotsEndAt]

theorem Port.Sound.flushed {now : Nat} (q : Port) : q.flushed.Sound now := .of_empty rfl rfl

theorem Port.Sound.enlist {now : Nat} {q : Port} (op : Op) (h : q.Sound now) : (q.enlist op).Sound now := by
  unfold Port.enlist
  split
  · exact { h with }
  · exact { h with noSweep := by simp }

theorem Port.Sound.clearHost {now : Nat} {q : Port} (h : q.Sound now) : Port.Sound now { q with hostList := [] } := { h with }

theorem slotsEndAt_cons (next : BitVec 4) (gen : BitVec 3) (x : QueuedOp) (xs : List QueuedOp) :
    slotsEndAt next gen (x :: xs) = true ↔
      x.slot + BitVec.ofNat 4 (xs.length + 1) = next ∧ x.gen = gen ∧ slotsEndAt next gen xs = true := by
  simp [slotsEndAt, and_assoc]

theorem Port.Sound.pop {now : Nat} {q : Port} {x : QueuedOp} {xs : List QueuedOp} (h : q.Sound now) (hq : q.queue = x :: xs) :
    Port.Sound now { q with queue := xs } := by
  obtain ⟨hplaces, hslots, horder, hissued, hgrants, hnone⟩ := h
  rw [hq] at hplaces hslots horder hissued
  exact ⟨(Nat.le_succ _).trans hplaces, ((slotsEndAt_cons ..).mp hslots).2.2, (List.pairwise_cons.mp horder).2,
    fun y hy => hissued y (List.mem_cons_of_mem _ hy), hgrants, hnone⟩

/-- An op issued takes the next slot at the queue's tail. -/
theorem slotsEndAt_append (next : BitVec 4) (gen : BitVec 3) (l : List QueuedOp) (x : QueuedOp) (hs : x.slot = next) (hg : x.gen = gen)
    (h : slotsEndAt next gen l = true) : slotsEndAt (next + 1) gen (l ++ [x]) = true := by
  induction l with
  | nil => simp [slotsEndAt, hs, hg]
  | cons y l ih =>
    obtain ⟨hslot, hgen, hrest⟩ := (slotsEndAt_cons ..).mp h
    rw [List.cons_append, slotsEndAt_cons]
    refine ⟨?_, hgen, ih hrest⟩
    rw [List.length_append, List.length_singleton, ← hslot, BitVec.ofNat_add, ← BitVec.add_assoc]
    rfl

/-- A grant leaves the arbiter's counter within the share, and 0 where no sweep op waits (R148). -/
theorem grantOne_hostGrants {share now : Nat} {q q' : Port} (h : q.grantOne share now = some q') (hshare : share ≤ 16)
    (hg : q.hostGrants ≤ 16) (hnone : q.sweepList = [] → q.hostGrants = 0) :
    q'.hostGrants ≤ 16 ∧ (q'.sweepList = [] → q'.hostGrants = 0) := by
  unfold Port.grantOne at h
  split at h
  · split at h
    · cases h
    · next hc =>
      split at h
      · cases h
      · next op ops hh =>
        cases h
        cases hs : q.sweepList with
        | nil => simp [Port.issueOp, hnone hs]
        | cons y ys =>
          have hlt : q.hostGrants < share := by simpa [Port.choice, hh, hs] using hc
          simp [Port.issueOp]
          omega
    · split at h
      · cases h
      · cases h; simp [Port.issueOp]
  · cases h

theorem Port.Sound.grantOne {share now : Nat} {q q' : Port} (h : q.Sound now) (hshare : share ≤ 16)
    (hg : q.grantOne share now = some q') : q'.Sound now := by
  obtain ⟨hgrants, hnone⟩ := grantOne_hostGrants hg hshare h.grants h.noSweep
  obtain ⟨hroom, op, n, -, he⟩ := grantOne_cases share now q q' hg
  have hqueue : q'.queue = q.queue ++ [{ op := op, slot := q.nextSlot, gen := q.gen, issuedAt := now }] := by rw [he]
  have hnext : q'.nextSlot = q.nextSlot + 1 := by rw [he]
  have hgen : q'.gen = q.gen := by rw [he]
  refine ⟨?_, ?_, ?_, ?_, hgrants, hnone⟩
  · rw [hqueue, List.length_append]; exact hroom
  · rw [hqueue, hnext, hgen]; exact slotsEndAt_append _ _ _ _ rfl rfl h.slots
  · rw [hqueue, List.map_append, List.pairwise_append]
    refine ⟨h.order, List.pairwise_singleton _ _, fun a ha b hb => ?_⟩
    obtain ⟨x, hx, rfl⟩ := List.mem_map.mp ha
    rw [List.map_singleton, List.mem_singleton] at hb
    rw [hb]
    exact h.issued x hx
  · intro x hx
    rw [hqueue, List.mem_append, List.mem_singleton] at hx
    rcases hx with hx | rfl
    · exact h.issued x hx
    · exact le_rfl

/-! ## Policies and ports of the state -/

/-- What the statement on ports keeps. -/
def PortsKept (s : State) : Prop := PoliciesInRange s ∧ PortsSound s

theorem PortsKept.of_eq {s t : State} (hs : PortsKept s) (hpol : PoliciesInRange t) (hp : t.ports = s.ports) (hn : t.now = s.now) :
    PortsKept t :=
  ⟨hpol, fun p => by simp only [State.port, hp, hn]; exact hs.2 p⟩

theorem PortsKept.setPort {s : State} (hs : PortsKept s) (p : PlaneId) (q : Port) (hq : q.Sound s.now) : PortsKept (s.setPort p q) := by
  refine ⟨hs.1, (portsSound_iff _).mpr fun r => ?_⟩
  rw [State.setPort_port]
  split
  · exact hq
  · exact (portsSound_iff s).mp hs.2 r

theorem PortsKept.port {s : State} (hs : PortsKept s) (p : PlaneId) : (s.port p).Sound s.now := (portsSound_iff s).mp hs.2 p

/-- The policy values and the time are what the acts of an event leave as they are; the log's settings stay too. -/
theorem policiesInRange_of_inner {s t : State} (h : Inner s t) (hl : t.log.threshold = s.log.threshold) (hs : PoliciesInRange s) :
    PoliciesInRange t := by
  unfold Inner at h
  unfold PoliciesInRange at *
  rw [hl]
  rw [h]
  exact hs

theorem postRecord_threshold (b : RecBody) (s : State) : (postRecord b s).log.threshold = s.log.threshold :=
  (postRecord_log_settings b s).2

theorem Touch.portsKept (s t : State) (h : Touch s t) (hs : PortsKept s) : PortsKept t := by
  cases h with
  | request t r k hk hr => rcases setRequest_cases t r s with ⟨k, -, he⟩ | ⟨-, he⟩ <;> rw [he] <;> exact hs.of_eq hs.1 rfl rfl
  | produce t st d => rcases produce_cases t st d s with ⟨r, -, he⟩ | ⟨-, he⟩ <;> rw [he] <;> exact hs.of_eq hs.1 rfl rfl
  | post b =>
    exact hs.of_eq (policiesInRange_of_inner (inner_postRecord b s) (postRecord_threshold b s) hs.1) (by rw [postRecord_frame])
      (by rw [postRecord_frame])
  | suspect e => rcases addSuspect_cases e s with ⟨l, -, he⟩ | ⟨-, he⟩ <;> rw [he] <;> exact hs.of_eq hs.1 rfl rfl
  | enlist p op => exact hs.setPort p _ ((hs.port p).enlist op)
  | grant p u h =>
    obtain ⟨-, q, ops, hq, rfl⟩ := grantOp_cases p s _ h
    exact (hs.setPort p q ((hs.port p).grantOne hs.1.2.2.1.2 hq)).of_eq hs.1 rfl rfl
  | abort o => rcases enterAborting_cases o s with h | ⟨-, ⟨j, -, h⟩ | ⟨-, h⟩⟩ <;> rw [h] <;> exact hs.of_eq hs.1 rfl rfl
  | unsuspect _ | rotate _ | slot _ _ _ | count _ _ _ _ => exact hs.of_eq hs.1 rfl rfl

theorem PortsKept.endJob {s : State} (hs : PortsKept s) (j : Job) (o : JobOutcome) : PortsKept (endJob j o s) := by
  obtain ⟨planes, h⟩ := endJob_shape j o s
  rw [h]
  exact hs.of_eq hs.1 rfl rfl

theorem settleActs_portsKept (acts : List Act) (s : State) (hs : PortsKept s) : PortsKept (settleActs acts s) := by
  refine settleActs_keeps PortsKept (perform_keeps PortsKept Touch.portsKept ?_ ?_ ?_ ?_ ?_) acts s hs
  · intro pos s hs; cases pos <;> exact hs.of_eq hs.1 rfl rfl
  · intro pos kind line s hs; exact hs.of_eq hs.1 rfl rfl
  · intro t s hs
    rcases placeHeldBack_cases t s with h | ⟨c, -, -, h⟩ <;> rw [h] <;> exact hs.of_eq hs.1 rfl rfl
  · intro s hs
    rcases placeNext_cases s with h | ⟨j, k, -, -, -, -, -, h⟩ <;> rw [h] <;> exact hs.of_eq hs.1 rfl rfl
  · intro s hs
    rcases completeJob_cases s with h | ⟨j, -, -, -, -, h⟩ <;> rw [h]
    · exact hs
    · exact hs.endJob j .complete

theorem PortsKept.failFirst {s : State} (hs : PortsKept s) (p : PlaneId) (c : FailCause) : PortsKept (failFirst p c s) := by
  have hfailed : PortsKept (s.setPlane p (failedRecord (s.plane p) c)) := hs.of_eq hs.1 rfl rfl
  rcases failFirst_shape p c s with h | ⟨o, h⟩ <;> rw [h]
  · exact hfailed.setPort p _ (.flushed _)
  · exact (Touch.portsKept _ _ (.abort o) hfailed).setPort p _ (.flushed _)

theorem PortsKept.failPlane {s : State} (hs : PortsKept s) (p : PlaneId) (c : FailCause) : PortsKept (failPlane p c s) :=
  failPlane_closed PortsKept p c s (fun acts u _ hu => settleActs_portsKept acts u hu) (fun b u hu => Touch.portsKept u _ (.post b) hu)
    (fun _ _ _ hu => hu.of_eq hu.1 rfl rfl) (fun _ hu => hu.of_eq hu.1 rfl rfl) (fun _ _ hu => hu.of_eq hu.1 rfl rfl) (hs.failFirst p c) hs

theorem postRecords_threshold (l : List RecBody) (s : State) :
    (l.foldl (fun s b => postRecord b s) s).log.threshold = s.log.threshold := by
  induction l generalizing s with
  | nil => rfl
  | cons b l ih => exact (ih _).trans (postRecord_threshold b s)

theorem cutOffTag_threshold (s : State) (t : Tag) : (cutOffTag s t).log.threshold = s.log.threshold := by
  unfold cutOffTag
  split
  · split
    · split
      · rfl
      · exact postRecords_threshold ..
    · rfl
  · rfl

theorem foldl_cutOffTag_threshold (l : List Tag) (s : State) : (l.foldl cutOffTag s).log.threshold = s.log.threshold := by
  induction l generalizing s with
  | nil => rfl
  | cons t l ih => exact (ih _).trans (cutOffTag_threshold s t)

theorem PortsKept.channelCut {s : State} (hs : PortsKept s) : PortsKept (channelCut s) := by
  obtain ⟨_, _, h⟩ := channelCut_shape s
  refine ⟨?_, (portsSound_iff _).mpr fun p => ?_⟩
  · have hpol := hs.1
    unfold PoliciesInRange at hpol ⊢
    have hl := foldl_cutOffTag_threshold allTags s
    rw [h]
    dsimp only
    rw [hl]
    exact hpol
  · rw [channelCut_port, h]
    exact (hs.port p).clearHost

theorem Move.portsKept (s t : State) (h : Move s t) (hs : PortsKept s) : PortsKept t := by
  cases h with
  | touch u h => exact h.portsKept s _ hs
  | acts acts h => exact settleActs_portsKept acts s hs
  | fail p c => exact hs.failPlane p c
  | countError p h =>
    have hcounted : PortsKept (s.setPlane p { s.plane p with errorCount := (s.plane p).errorCount + 1 }) := hs.of_eq hs.1 rfl rfl
    unfold countDataError
    dsimp only
    split
    · exact hcounted.failPlane p _
    · exact hcounted
  | pop p q qs h => exact hs.setPort p _ ((hs.port p).pop h)
  | drain p => rcases drainPlane_cases s p with h | ⟨-, -, h⟩ <;> rw [h] <;> exact hs.of_eq hs.1 rfl rfl
  | endAbort =>
    rcases endAbort_cases s with h | ⟨j, o, -, -, -, -, -, h⟩ <;> rw [h]
    · exact hs
    · exact hs.endJob j o
  | complete =>
    rcases completeJob_cases s with h | ⟨j, -, -, -, -, h⟩ <;> rw [h]
    · exact hs
    · exact hs.endJob j .complete
  | time n h => exact ⟨hs.1, (portsSound_iff _).mpr fun p => (hs.port p).mono h⟩
  | dropCompletion hf =>
    rcases placeWaiting_cases (Machine.dropCompletion s) with h | ⟨c, -, -, -, h⟩ <;> rw [h] <;> exact hs.of_eq hs.1 rfl rfl
  | placeWaiting => rcases placeWaiting_cases s with h | ⟨c, -, -, -, h⟩ <;> rw [h] <;> exact hs.of_eq hs.1 rfl rfl
  | policies u hr hu => exact hs.of_eq (hr hs.1) (by rw [hu]) (by rw [hu])
  | geometry code h => exact hs.of_eq ⟨hs.1.1, hs.1.2.1, hs.1.2.2.1, hs.1.2.2.2.1, h⟩ rfl rfl
  | startJob j h => obtain ⟨planes, he⟩ := jobSet_shape j s; rw [he]; exact hs.of_eq hs.1 rfl rfl
  | takeHead =>
    rcases takeHead_cases s with h | ⟨x, rest, -, -, h⟩ <;> rw [h]
    · exact hs
    rcases freeTag_cases x.tag { s with responses := rest, out := { s.out with response := some x } } with
      ⟨-, h⟩ | h | ⟨r, -, h⟩ <;> rw [h] <;> exact hs.of_eq hs.1 rfl rfl
  | cut => exact PortsKept.channelCut (hs.of_eq hs.1 rfl rfl)
  | powerOn => exact ⟨show PoliciesInRange State.reset by decide, (portsSound_iff _).mpr fun p => by rw [poweredOn_port]; exact .of_empty rfl rfl⟩
  | _ => exact hs.of_eq hs.1 rfl rfl

/-- Settles O11: each operation on a port keeps it sound, each policy value is stored in its range. -/
theorem stepKeepsPorts : Obligations.StepKeepsPorts := fun s t hs h =>
  step_keeps PortsKept Move.portsKept (fun _ _ hs => hs.of_eq hs.1 rfl rfl) s t hs h

end Sys2Proof.Machine
end

section
/-! PROOFS. The lock table through every step (R21 to R25, R33, R35): each operation on the table keeps its entries sound and one for a
line, and only acts on the table touch it. -/

namespace Sys2Proof.Machine

/-! ## One entry -/

/-- A waiting list of fitting claims whose head is no READ where READs hold. -/
structure LockEntry.WaitsWell (e : LockEntry) : Prop where
  kind : e.kind ≠ none
  behind : e.kind = some .hostRead → ∀ c ∈ e.waiting.head?, c.kind ≠ .hostRead
  fits : ∀ c ∈ e.waiting, c.kindFits
  alone : e.kind = some .hostWrite ∨ e.kind = some .sweep → e.holders.length ≤ 1

theorem LockEntry.sound.waitsWell {e : LockEntry} (h : e.sound) : e.WaitsWell :=
  ⟨h.2.2.1, h.2.2.2.1, h.2.2.2.2, fun hk => (h.2.1 hk).le⟩

/-- An entry that grants is sound again, or deleted (R25). -/
theorem LockEntry.WaitsWell.advance {e x : LockEntry} (h : e.WaitsWell) (hx : e.advance.1 = some x) : x.sound := by
  obtain ⟨hkind, hbehind, hfits, halone⟩ := h
  unfold LockEntry.advance at hx
  split at hx
  · split at hx
    · cases hx
    · next c cs hw =>
      rw [hw] at hfits
      split at hx
      · next hc =>
        cases hx
        refine ⟨by simp [hc], by simp, by simp, fun _ => ?_, fun d hd => hfits d ((List.dropWhile_suffix fun x : Claim => x.kind == .hostRead).subset hd)⟩
        intro d hd
        have := List.head?_dropWhile_not (fun x : Claim => x.kind == .hostRead) (c :: cs)
        rw [Option.mem_def.mp hd] at this
        simpa using this
      · next hc =>
        cases hx
        exact ⟨by simp, fun _ => rfl, by simp, fun hr => absurd (by simpa using hr) hc, fun d hd => hfits d (List.mem_cons_of_mem _ hd)⟩
  · next hh =>
    cases hx
    have hne : e.holders ≠ [] := by simpa using hh
    refine ⟨hne, fun hk => ?_, hkind, hbehind, hfits⟩
    have := halone hk
    have := List.length_pos_iff.mpr hne
    omega

/-- A claim that arrives at a sound entry joins its readers or its waiting list, and the entry stays sound (R24). -/
theorem LockEntry.sound.arrive {e : LockEntry} {c : Claim} (h : e.sound) (hc : c.kindFits) : (e.arrive c).sound := by
  obtain ⟨hne, halone, hkind, hbehind, hfits⟩ := h
  unfold LockEntry.arrive
  split
  · next hj =>
    have hread : e.kind = some .hostRead := by simp [joinsReaders] at hj; exact hj.1.1.2
    exact ⟨by simp, fun hk => by simp [hread] at hk, hkind, hbehind, hfits⟩
  · next hj =>
    refine ⟨hne, halone, hkind, fun hk d hd => ?_, fun d hd => ?_⟩
    · cases hw : e.waiting with
      | nil =>
        obtain rfl : c = d := by simpa [hw] using hd
        intro hr
        exact hj (by simp [joinsReaders, hr, hw, hne]; exact hk)
      | cons x xs => exact hbehind hk d (by rw [hw] at hd ⊢; exact hd)
    · rcases List.mem_append.mp hd with hd | hd
      · exact hfits d hd
      · rw [List.mem_singleton.mp hd]; exact hc

/-! ## The table -/

/-- The table between events: an entry for a line at most, each sound. -/
def TableSound (l : List LockEntry) : Prop := (l.map LockEntry.line).Nodup ∧ ∀ e ∈ l, e.sound

theorem TableSound.place {l : List LockEntry} (h : TableSound l) (c : Claim) (line : Nat) (hc : c.kindFits) :
    TableSound (lockPlace c line l).1 := by
  refine ⟨?_, fun e he => ?_⟩
  · rw [lockPlace_lines]
    split
    · exact h.1
    · next hm =>
      refine List.nodup_append.mpr ⟨h.1, List.nodup_singleton _, fun a ha b hb hab => hm ?_⟩
      rw [List.mem_singleton] at hb
      rwa [← hb, ← hab]
  · induction l with
    | nil =>
      obtain rfl := List.mem_singleton.mp he
      exact ⟨by simp, fun _ => rfl, by simp, by simp, by simp⟩
    | cons x xs ih =>
      have hxs : TableSound xs := ⟨(List.nodup_cons.mp h.1).2, fun e he => h.2 e (List.mem_cons_of_mem _ he)⟩
      have hx := h.2 x List.mem_cons_self
      unfold lockPlace at he
      split at he
      · rcases List.mem_cons.mp he with rfl | he
        · exact hx.arrive hc
        · exact hxs.2 e he
      · rcases List.mem_cons.mp he with rfl | he
        · exact hx
        · exact ih hxs he

theorem mem_advance_append {e x : LockEntry} {es : List LockEntry} (h : x ∈ e.advance.1.toList ++ es) :
    e.advance.1 = some x ∨ x ∈ es := by
  rcases List.mem_append.mp h with h | h
  · exact .inl (by simpa using h)
  · exact .inr h

theorem LockEntry.sound.withoutHolder {e : LockEntry} (h : e.sound) (pos : Claimant) :
    LockEntry.WaitsWell { e with holders := e.holders.erase pos } :=
  let ⟨hkind, hbehind, hfits, halone⟩ := h.waitsWell
  ⟨hkind, hbehind, hfits, fun hk => List.length_erase_le.trans (halone hk)⟩

theorem TableSound.release {l : List LockEntry} (h : TableSound l) (pos : Claimant) : TableSound (lockRelease pos l).1 := by
  refine ⟨h.1.sublist (lockRelease_lines pos l), fun e he => ?_⟩
  have hsound := h.2
  clear h
  induction l with
  | nil => cases he
  | cons x xs ih =>
    unfold lockRelease at he
    split at he
    · rcases mem_advance_append he with ha | hm
      · exact ((hsound x List.mem_cons_self).withoutHolder pos).advance ha
      · exact hsound e (List.mem_cons_of_mem _ hm)
    · rcases List.mem_cons.mp he with rfl | hm
      · exact hsound _ List.mem_cons_self
      · exact ih hm fun y hy => hsound y (List.mem_cons_of_mem _ hy)

theorem TableSound.grant {l : List LockEntry} (h : TableSound l) (line : Nat) : TableSound (lockGrant line l).1 := by
  refine ⟨h.1.sublist (lockGrant_lines line l), fun e he => ?_⟩
  have hsound := h.2
  clear h
  induction l with
  | nil => cases he
  | cons x xs ih =>
    unfold lockGrant at he
    split at he
    · rcases mem_advance_append he with ha | hm
      · exact (hsound x List.mem_cons_self).waitsWell.advance ha
      · exact hsound e (List.mem_cons_of_mem _ hm)
    · rcases List.mem_cons.mp he with rfl | hm
      · exact hsound _ List.mem_cons_self
      · exact ih hm fun y hy => hsound y (List.mem_cons_of_mem _ hy)

/-- At a host channel reset only sweep claims are left waiting, and no SWEEP claim is a READ. -/
theorem LockEntry.sound.cutOff {e x : LockEntry} (h : e.sound) (released : Claimant → Bool) (hx : (e.cutOff released).1 = some x) :
    x.sound := by
  obtain ⟨hkind, -, hfits, halone⟩ := h.waitsWell
  have hcut : LockEntry.WaitsWell
      { e with holders := e.holders.filter fun h => !released h, waiting := e.waiting.filter Claim.isSweep } := by
    refine ⟨hkind, fun _ c hc => ?_, fun c hc => hfits c (List.mem_filter.mp hc).1, fun hk => ?_⟩
    · obtain ⟨hm, hsweep⟩ := List.mem_filter.mp (List.mem_of_mem_head? hc)
      rw [(hfits c hm).mpr hsweep]
      simp
    · exact (List.length_filter_le ..).trans (halone hk)
  exact hcut.advance hx

theorem TableSound.cutOff {l : List LockEntry} (h : TableSound l) (released : Claimant → Bool) :
    TableSound (lockCutOff released l).1 := by
  refine ⟨h.1.sublist (lockCutOff_lines released l), fun x hx => ?_⟩
  simp only [lockCutOff, List.filterMap_map, List.mem_filterMap] at hx
  obtain ⟨e, he, hx⟩ := hx
  exact (h.2 e he).cutOff released hx

/-! ## The state -/

/-- The third clause of `LocksSound`: no claim held back is a SWEEP claim. -/
def HeldBackSound (s : State) : Prop := ∀ t : Tag, ∀ c ∈ (s.position t).heldBack, c.kind ≠ .sweep

theorem locksSound_iff (s : State) : LocksSound s ↔ TableSound s.locks ∧ HeldBackSound s :=
  ⟨fun ⟨a, b, c⟩ => ⟨⟨a, b⟩, c⟩, fun ⟨⟨a, b⟩, c⟩ => ⟨a, b, c⟩⟩

/-- What the statement on locks keeps. -/
def LocksKept (s : State) : Prop := TableSound s.locks ∧ HeldBackSound s

theorem LocksKept.of_eq {s t : State} (hs : LocksKept s) (hl : TableSound t.locks)
    (hp : ∀ u, (t.position u).heldBack = (s.position u).heldBack) : LocksKept t :=
  ⟨hl, fun u c hc => hs.2 u c (by rw [← hp u]; exact hc)⟩

theorem LocksKept.of_claims {s t : State} (hs : LocksKept s) (h : KeepsClaims s t) : LocksKept t :=
  hs.of_eq (by rw [h.locks]; exact hs.1) h.heldBack

theorem LocksKept.setPosition {s : State} (hs : LocksKept s) (t : Tag) (x : HostPos) (hx : ∀ c ∈ x.heldBack, c.kind ≠ .sweep) :
    LocksKept (s.setPosition t x) := by
  refine ⟨hs.1, fun u c hc => ?_⟩
  rw [State.setPosition_position] at hc
  split at hc
  · exact hx c hc
  · exact hs.2 u c hc

theorem fits_starts (l : List Claimant) : ∀ a ∈ l.map Act.start, a.fits := by
  intro a ha
  obtain ⟨pos, -, rfl⟩ := List.mem_map.mp ha
  trivial

theorem fits_endActs (pos : Claimant) : ∀ a ∈ endActs pos, a.fits := by cases pos <;> simp [endActs, Act.fits]

theorem Does.locksKept {pos : Claimant} {s : State} {e : Effect} (h : Does pos s e) (hs : LocksKept s) :
    LocksKept e.1 ∧ ∀ a ∈ e.2, a.fits := by
  refine ⟨hs.of_claims h.touches.keepsClaims, ?_⟩
  rcases h.acts with h | h <;> rw [h]
  · simp
  · exact fits_endActs pos

/-- An act that fits keeps the table sound and brings acts that fit. -/
theorem perform_locksKept (a : Act) (s : State) (ha : a.fits) (hs : LocksKept s) :
    LocksKept (perform a s).1 ∧ ∀ b ∈ (perform a s).2, b.fits := by
  cases a with
  | deliver op p e => exact (does_deliverEnd op p e s).locksKept hs
  | start pos => exact (does_startWork pos s).locksKept hs
  | release pos =>
    refine ⟨?_, fun b hb => ?_⟩
    · show LocksKept (freePosition pos { s with locks := (lockRelease pos s.locks).1 })
      have hreleased : LocksKept { s with locks := (lockRelease pos s.locks).1 } := ⟨hs.1.release pos, hs.2⟩
      cases pos with
      | host t => exact hreleased.setPosition t _ (hs.2 t)
      | slot k => exact hreleased
    · rcases List.mem_append.mp hb with hb | hb
      · exact fits_starts _ b hb
      · cases pos with
        | host t => rw [List.mem_singleton.mp hb]; trivial
        | slot k => cases hb
  | place pos kind line =>
    refine ⟨⟨hs.1.place _ line ha, hs.2⟩, fun b hb => ?_⟩
    have : b = .start pos := by
      simp only [perform, placeClaim] at hb
      split at hb
      · exact List.mem_singleton.mp hb
      · cases hb
    rw [this]
    trivial
  | placeHeld t =>
    show LocksKept (placeHeldBack t s).1 ∧ ∀ b ∈ (placeHeldBack t s).2, b.fits
    rcases placeHeldBack_cases t s with h | ⟨c, -, hc, h⟩ <;> rw [h]
    · exact ⟨hs, by simp⟩
    · refine ⟨hs.setPosition t _ (by simp), fun b hb => ?_⟩
      rw [List.mem_singleton.mp hb]
      exact Act.place_host_fits _ _ _ (hs.2 t c hc)
  | sweepPlace =>
    show LocksKept (placeNext s).1 ∧ ∀ b ∈ (placeNext s).2, b.fits
    rcases placeNext_cases s with h | ⟨j, k, -, -, -, -, -, h⟩ <;> rw [h]
    · exact ⟨hs, by simp⟩
    · exact ⟨hs, by simp [Act.fits, Claim.kindFits, Claim.isSweep]⟩
  | sweepTest =>
    refine ⟨?_, by simp [perform]⟩
    show LocksKept (completeJob s)
    rcases completeJob_cases s with h | ⟨j, -, -, -, -, h⟩ <;> rw [h]
    · exact hs
    · obtain ⟨planes, he⟩ := endJob_shape j .complete s
      rw [he]
      exact hs

theorem performAll_locksKept (n : Nat) (acts : List Act) (s : State) (ha : ∀ a ∈ acts, a.fits) (hs : LocksKept s) :
    LocksKept (performAll n acts s).1 := by
  induction n generalizing acts s with
  | zero => cases acts <;> exact hs
  | succ n ih =>
    cases acts with
    | nil => exact hs
    | cons a as =>
      obtain ⟨hkept, hfits⟩ := perform_locksKept a s (ha a List.mem_cons_self) hs
      refine ih _ _ (fun b hb => ?_) hkept
      rcases List.mem_append.mp hb with hb | hb
      · exact hfits b hb
      · exact ha b (List.mem_cons_of_mem _ hb)

theorem settleActs_locksKept (acts : List Act) (s : State) (ha : ∀ a ∈ acts, a.fits) (hs : LocksKept s) :
    LocksKept (settleActs acts s) := performAll_locksKept _ acts s ha hs

theorem LocksKept.failFirst {s : State} (hs : LocksKept s) (p : PlaneId) (c : FailCause) : LocksKept (failFirst p c s) := by
  rcases failFirst_shape p c s with h | ⟨o, h⟩ <;> rw [h]
  · exact hs
  · have haborted : LocksKept (enterAborting o (s.setPlane p (failedRecord (s.plane p) c))) :=
      LocksKept.of_claims (s := s.setPlane p (failedRecord (s.plane p) c)) hs (Touch.keepsClaims _ _ (.abort o))
    exact haborted

theorem LocksKept.failPlane {s : State} (hs : LocksKept s) (p : PlaneId) (c : FailCause) : LocksKept (failPlane p c s) :=
  failPlane_closed LocksKept p c s settleActs_locksKept (fun b _ hu => hu.of_claims (Touch.keepsClaims _ _ (.post b)))
    (fun _ _ _ hu => hu) (fun _ hu => hu) (fun _ _ hu => hu) (hs.failFirst p c) hs

theorem LocksKept.endJob {s : State} (hs : LocksKept s) (j : Job) (o : JobOutcome) : LocksKept (endJob j o s) := by
  obtain ⟨planes, h⟩ := endJob_shape j o s
  rw [h]
  exact hs

theorem LocksKept.freeTag {s : State} (hs : LocksKept s) (t : Tag) : LocksKept (freeTag t s) := by
  rcases freeTag_cases t s with ⟨-, h⟩ | h | ⟨r, -, h⟩ <;> rw [h]
  · exact hs
  · exact hs
  · exact hs.setPosition t _ (hs.2 t)

theorem LocksKept.channelCut {s : State} (hs : LocksKept s) : LocksKept (channelCut s) := by
  obtain ⟨_, _, h⟩ := channelCut_shape s
  refine ⟨?_, fun u c hc => ?_⟩
  · rw [h]
    exact hs.1.cutOff _
  · rw [channelCut_position] at hc
    cases hc

theorem Move.locksKept (s t : State) (h : Move s t) (hs : LocksKept s) : LocksKept t := by
  cases h with
  | touch u h => exact hs.of_claims (h.keepsClaims s _)
  | acts acts h => exact settleActs_locksKept acts s h hs
  | fail p c => exact hs.failPlane p c
  | countError p h =>
    have hcounted : LocksKept (s.setPlane p { s.plane p with errorCount := (s.plane p).errorCount + 1 }) := hs
    unfold countDataError
    dsimp only
    split
    · exact hcounted.failPlane p _
    · exact hcounted
  | drain p => rcases drainPlane_cases s p with h | ⟨-, -, h⟩ <;> rw [h] <;> exact hs
  | endAbort =>
    rcases endAbort_cases s with h | ⟨j, o, -, -, -, -, -, h⟩ <;> rw [h]
    · exact hs
    · exact hs.endJob j o
  | complete =>
    rcases completeJob_cases s with h | ⟨j, -, -, -, -, h⟩ <;> rw [h]
    · exact hs
    · exact hs.endJob j .complete
  | grantLine line => exact ⟨hs.1.grant line, hs.2⟩
  | dropCompletion hf => rcases placeWaiting_cases (Machine.dropCompletion s) with h | ⟨c, -, -, -, h⟩ <;> rw [h] <;> exact hs
  | placeWaiting => rcases placeWaiting_cases s with h | ⟨c, -, -, -, h⟩ <;> rw [h] <;> exact hs
  | policies u hr hu => rw [hu]; exact hs
  | startJob j h => obtain ⟨planes, he⟩ := jobSet_shape j s; rw [he]; exact hs
  | holdBack t c h => exact hs.setPosition t _ fun d hd => by obtain rfl := Option.mem_some_iff.mp hd; exact h
  | takeHead =>
    rcases takeHead_cases s with h | ⟨x, rest, -, -, h⟩ <;> rw [h]
    · exact hs
    · exact LocksKept.freeTag (s := { s with responses := rest, out := { s.out with response := some x } }) hs x.tag
  | cut => exact LocksKept.channelCut (s := { s with pins := { s.pins with hrstLow := true } }) hs
  | powerOn =>
    refine ⟨⟨List.nodup_nil, fun e he => by cases he⟩, fun t c hc => ?_⟩
    simp [poweredOn, sampleLinks, State.reset, State.position] at hc
  | _ => exact hs

/-- Settles O12: each operation on the table keeps it sound, and only acts that fit are begun. -/
theorem stepKeepsLocks : Obligations.StepKeepsLocks := fun s t hs h =>
  (locksSound_iff t).mpr (step_keeps LocksKept Move.locksKept (fun _ _ hs => hs) s t ((locksSound_iff s).mp hs) h)

end Sys2Proof.Machine
end

section
/-! PROOFS. The response queue through every step (R154, R161): a tag enters QUEUED with its response, and leaves it with it. -/

namespace Sys2Proof.Machine

/-! ## The queue against the tag table -/

/-- A tag entry in QUEUED. -/
def TagEntry.IsQueued (e : TagEntry) : Prop := ∃ r st, e = .queued r st

theorem ResponsesMatchTags.of_eq {s t : State} (hs : ResponsesMatchTags s) (ht : t.tags = s.tags) (hr : t.responses = s.responses) :
    ResponsesMatchTags t := by
  simp only [ResponsesMatchTags, State.tag, ht, hr] at hs ⊢
  exact hs

/-- A tag that is not QUEUED, before or after, has no response. -/
theorem ResponsesMatchTags.setTag_unqueued {s : State} (hs : ResponsesMatchTags s) (t : Tag) (x : TagEntry) (h : ¬(s.tag t).IsQueued)
    (hx : ¬x.IsQueued) : ResponsesMatchTags (s.setTag t x) := by
  obtain ⟨hnodup, hmatch, hkinds⟩ := hs
  have hnone : ∀ y ∈ s.responses, y.tag ≠ t := fun y hy he => h ((hmatch t).mp ⟨y, hy, he⟩)
  refine ⟨hnodup, fun u => ?_, fun y hy r st hst => ?_⟩
  · rw [State.setTag_responses, State.setTag_tag]
    split
    · next hu =>
      subst hu
      exact iff_of_false (fun ⟨y, hy, he⟩ => hnone y hy he) hx
    · exact hmatch u
  · rw [State.setTag_tag, if_neg (hnone y hy)] at hst
    exact hkinds y hy r st hst

/-- A QUEUED tag's request may change, but for its kind. -/
theorem ResponsesMatchTags.setTag_queued {s : State} (hs : ResponsesMatchTags s) (t : Tag) (r r' : Request) (st : Status)
    (h : s.tag t = .queued r st) (hk : r'.kind = r.kind) : ResponsesMatchTags (s.setTag t (.queued r' st)) := by
  obtain ⟨hnodup, hmatch, hkinds⟩ := hs
  refine ⟨hnodup, fun u => ?_, fun y hy q st' hst => ?_⟩
  · rw [State.setTag_responses, State.setTag_tag]
    split
    · next hu =>
      subst hu
      exact (hmatch u).trans (iff_of_true ⟨r, st, h⟩ ⟨r', st, rfl⟩)
    · exact hmatch u
  · rw [State.setTag_tag] at hst
    split at hst
    · next hu =>
      cases hst
      rw [hk]
      exact hkinds y hy r st (by rw [hu]; exact h)
    · exact hkinds y hy q st' hst

/-- A response produced joins the queue with its tag's entry (R161). -/
theorem ResponsesMatchTags.produce {s : State} (hs : ResponsesMatchTags s) (t : Tag) (st : Status) (d : LineData) :
    ResponsesMatchTags (produce t st d s) := by
  rcases produce_cases t st d s with ⟨r, hr, he⟩ | ⟨-, he⟩ <;> rw [he]
  · obtain ⟨hnodup, hmatch, hkinds⟩ := hs
    have hnone : ∀ y ∈ s.responses, y.tag ≠ t := by
      intro y hy hy'
      obtain ⟨q, st', hq⟩ := (hmatch t).mp ⟨y, hy, hy'⟩
      rw [hr] at hq
      cases hq
    have htag : ∀ u, ({ s.setTag t (.queued (r.answered st) st) with
        responses := s.responses ++ [{ kind := r.kind, tag := t, status := st, data := d }] } : State).tag u =
        if u = t then .queued (r.answered st) st else s.tag u := fun u => State.setTag_tag s t _ u
    refine ⟨?_, fun u => ?_, fun y hy q st' hst => ?_⟩
    · rw [List.map_append]
      refine List.nodup_append.mpr ⟨hnodup, List.nodup_singleton _, fun a ha b hb hab => ?_⟩
      obtain ⟨y, hy, rfl⟩ := List.mem_map.mp ha
      exact hnone y hy (hab.trans (List.mem_singleton.mp hb))
    · rw [htag u]
      simp only [List.mem_append, List.mem_singleton, or_and_right, exists_or, exists_eq_left]
      split
      · next hu => exact iff_of_true (.inr hu.symm) ⟨_, _, rfl⟩
      · next hu => rw [hmatch u]; simp [Ne.symm hu]
    · rw [htag] at hst
      rcases List.mem_append.mp hy with hy | hy
      · rw [if_neg (hnone y hy)] at hst
        exact hkinds y hy q st' hst
      · rw [List.mem_singleton.mp hy] at hst ⊢
        rw [if_pos rfl] at hst
        cases hst
        exact ⟨rfl, rfl⟩
  · exact hs

theorem ResponsesMatchTags.setRequest {s : State} (hs : ResponsesMatchTags s) (t : Tag) (r k : Request) (hk : requestAt s t = some k)
    (hr : r.kind = k.kind) : ResponsesMatchTags (setRequest t r s) := by
  rcases setRequest_cases t r s with ⟨k, -, he⟩ | ⟨hnone, he⟩ <;> rw [he]
  · exact hs.of_eq rfl rfl
  · simp only [requestAt, hnone] at hk
    cases htag : s.tag t with
    | free => exact hs.setTag_unqueued t _ (by rw [htag]; rintro ⟨_, _, h⟩; cases h) (by rintro ⟨_, _, h⟩; cases h)
    | inWork q => exact hs.setTag_unqueued t _ (by rw [htag]; rintro ⟨_, _, h⟩; cases h) (by rintro ⟨_, _, h⟩; cases h)
    | queued q st =>
      rw [htag] at hk
      cases hk
      exact hs.setTag_queued t _ r st htag hr

/-- The tag whose response is taken is FREE after it (R154, R161). -/
theorem ResponsesMatchTags.take {s : State} {x : Response} {rest : List Response} (hs : ResponsesMatchTags s)
    (h : s.responses = x :: rest) : ResponsesMatchTags { s.setTag x.tag .free with responses := rest } := by
  obtain ⟨hnodup, hmatch, hkinds⟩ := hs
  rw [h, List.map_cons] at hnodup
  obtain ⟨hx, hrest⟩ := List.nodup_cons.mp hnodup
  have hother : ∀ y ∈ rest, y.tag ≠ x.tag := fun y hy he => hx (by rw [← he]; exact List.mem_map_of_mem hy)
  have htag : ∀ u, ({ s.setTag x.tag .free with responses := rest } : State).tag u = if u = x.tag then .free else s.tag u :=
    fun u => State.setTag_tag s _ _ u
  refine ⟨hrest, fun u => ?_, fun y hy q st hst => ?_⟩
  · rw [htag u]
    split
    · next hu => exact iff_of_false (fun ⟨y, hy, he⟩ => hother y hy (he.trans hu)) (by simp)
    · next hu =>
      rw [← hmatch u, h]
      simp [Ne.symm hu]
  · rw [htag, if_neg (hother y hy)] at hst
    exact hkinds y (by rw [h]; exact List.mem_cons_of_mem _ hy) q st hst

theorem ResponsesMatchTags.of_clear {s : State} (hr : s.responses = []) (ht : s.tags = Vector.replicate 32 .free) :
    ResponsesMatchTags s := by
  refine ⟨by simp [hr], fun t => ?_, fun x hx => by simp [hr] at hx⟩
  simp [hr, State.tag, ht]

/-! ## Every step -/

theorem Touch.responses (s t : State) (h : Touch s t) (hs : ResponsesMatchTags s) : ResponsesMatchTags t := by
  cases h with
  | request t r k hk hr => exact hs.setRequest t r k hk hr
  | produce t st d => exact hs.produce t st d
  | post b => rw [postRecord_frame]; exact hs.of_eq rfl rfl
  | suspect e => rcases addSuspect_cases e s with ⟨l, -, he⟩ | ⟨-, he⟩ <;> rw [he] <;> exact hs.of_eq rfl rfl
  | grant p u h => obtain ⟨-, q, ops, hq, rfl⟩ := grantOp_cases p s _ h; exact hs.of_eq rfl rfl
  | abort o => rcases enterAborting_cases o s with h | ⟨-, ⟨j, -, h⟩ | ⟨-, h⟩⟩ <;> rw [h] <;> exact hs.of_eq rfl rfl
  | unsuspect _ | rotate _ | enlist _ _ | slot _ _ _ | count _ _ _ _ => exact hs.of_eq rfl rfl

theorem ResponsesMatchTags.endJob {s : State} (hs : ResponsesMatchTags s) (j : Job) (o : JobOutcome) :
    ResponsesMatchTags (endJob j o s) := by
  obtain ⟨planes, h⟩ := endJob_shape j o s
  rw [h]
  exact hs.of_eq rfl rfl

theorem settleActs_responses (acts : List Act) (s : State) (hs : ResponsesMatchTags s) : ResponsesMatchTags (settleActs acts s) := by
  refine settleActs_keeps ResponsesMatchTags (perform_keeps ResponsesMatchTags Touch.responses ?_ ?_ ?_ ?_ ?_) acts s hs
  · intro pos s hs; cases pos <;> exact hs.of_eq rfl rfl
  · intro pos kind line s hs; exact hs.of_eq rfl rfl
  · intro t s hs
    rcases placeHeldBack_cases t s with h | ⟨c, -, -, h⟩ <;> rw [h] <;> exact hs.of_eq rfl rfl
  · intro s hs
    rcases placeNext_cases s with h | ⟨j, k, -, -, -, -, -, h⟩ <;> rw [h] <;> exact hs.of_eq rfl rfl
  · intro s hs
    rcases completeJob_cases s with h | ⟨j, -, -, -, -, h⟩ <;> rw [h]
    · exact hs
    · exact hs.endJob j .complete

theorem ResponsesMatchTags.failFirst {s : State} (hs : ResponsesMatchTags s) (p : PlaneId) (c : FailCause) :
    ResponsesMatchTags (failFirst p c s) := by
  have hfailed : ResponsesMatchTags (s.setPlane p (failedRecord (s.plane p) c)) := hs.of_eq rfl rfl
  rcases failFirst_shape p c s with h | ⟨o, h⟩ <;> rw [h]
  · exact hfailed.of_eq rfl rfl
  · exact (Touch.responses _ _ (.abort o) hfailed).of_eq rfl rfl

theorem ResponsesMatchTags.failPlane {s : State} (hs : ResponsesMatchTags s) (p : PlaneId) (c : FailCause) :
    ResponsesMatchTags (failPlane p c s) :=
  failPlane_closed ResponsesMatchTags p c s (fun acts u _ hu => settleActs_responses acts u hu)
    (fun b u hu => Touch.responses u _ (.post b) hu) (fun _ _ _ hu => hu.of_eq rfl rfl) (fun _ hu => hu.of_eq rfl rfl)
    (fun _ _ hu => hu.of_eq rfl rfl) (hs.failFirst p c) hs

theorem ResponsesMatchTags.takeHead {s : State} (hs : ResponsesMatchTags s) : ResponsesMatchTags (takeHead s) := by
  rcases takeHead_cases s with h | ⟨x, rest, hx, -, h⟩ <;> rw [h]
  · exact hs
  have htaken := hs.take hx
  rcases freeTag_cases x.tag { s with responses := rest, out := { s.out with response := some x } } with
    ⟨hfree, -⟩ | h | ⟨r, -, h⟩
  · obtain ⟨r, st, hq⟩ := (hs.2.1 x.tag).mp ⟨x, by rw [hx]; exact List.mem_cons_self, rfl⟩
    exact absurd (hq.symm.trans hfree) (by simp)
  · rw [h]; exact htaken.of_eq rfl rfl
  · rw [h]; exact htaken.of_eq rfl rfl

theorem Move.responses (s t : State) (h : Move s t) (hs : ResponsesMatchTags s) : ResponsesMatchTags t := by
  cases h with
  | touch u h => exact h.responses s _ hs
  | acts acts h => exact settleActs_responses acts s hs
  | fail p c => exact hs.failPlane p c
  | countError p h =>
    have hcounted : ResponsesMatchTags (s.setPlane p { s.plane p with errorCount := (s.plane p).errorCount + 1 }) := hs.of_eq rfl rfl
    unfold countDataError
    dsimp only
    split
    · exact hcounted.failPlane p _
    · exact hcounted
  | drain p => rcases drainPlane_cases s p with h | ⟨-, -, h⟩ <;> rw [h] <;> exact hs.of_eq rfl rfl
  | endAbort =>
    rcases endAbort_cases s with h | ⟨j, o, -, -, -, -, -, h⟩ <;> rw [h]
    · exact hs
    · exact hs.endJob j o
  | complete =>
    rcases completeJob_cases s with h | ⟨j, -, -, -, -, h⟩ <;> rw [h]
    · exact hs
    · exact hs.endJob j .complete
  | dropCompletion hf =>
    rcases placeWaiting_cases (Machine.dropCompletion s) with h | ⟨c, -, -, -, h⟩ <;> rw [h] <;> exact hs.of_eq rfl rfl
  | placeWaiting => rcases placeWaiting_cases s with h | ⟨c, -, -, -, h⟩ <;> rw [h] <;> exact hs.of_eq rfl rfl
  | policies u hr hu => rw [hu]; exact hs.of_eq rfl rfl
  | startJob j h => obtain ⟨planes, he⟩ := jobSet_shape j s; rw [he]; exact hs.of_eq rfl rfl
  | enter t r h =>
    exact hs.setTag_unqueued t _ (by rw [h]; rintro ⟨_, _, h⟩; cases h) (by rintro ⟨_, _, h⟩; cases h)
  | takeHead => exact hs.takeHead
  | cut =>
    obtain ⟨_, _, h⟩ := channelCut_shape { s with pins := { s.pins with hrstLow := true } }
    rw [h]
    exact .of_clear rfl rfl
  | powerOn => exact .of_clear rfl rfl
  | _ => exact hs.of_eq rfl rfl

/-- Settles O13: each move keeps the queue matched with the tags. -/
theorem stepKeepsResponses : Obligations.StepKeepsResponses := fun s t hs h =>
  step_keeps ResponsesMatchTags Move.responses (fun _ _ hs => hs.of_eq rfl rfl) s t hs h

end Sys2Proof.Machine
end

section
/-! PROOFS. The sweep engine through every step (R87, R88, R92, R106, R107, R109 to R112): what holds between engine state, job, slots
and completion queue, and each move that touches them. -/

namespace Sys2Proof.Machine

/-! ## The engine by itself -/

/-- What `SweepSound` says, of the engine alone. -/
structure Sweep.Sound (w : Sweep) : Prop where
  hasJob : w.engine ≠ .idle → w.job ≠ none
  job : ∀ j ∈ w.job, j.sound ∧ (w.engine = .running ↔ j.outcome = none)
  free : w.engine = .idle ∨ w.engine = .ending → ∀ k : SlotId, w.slots[k] = none
  places : w.completions.length ≤ Config.completionPlaces
  waiting : w.waiting.isSome = true ↔ w.engine = .ending
  full : w.engine = .ending → w.completions.length = Config.completionPlaces

theorem sweepSound_iff (s : State) : SweepSound s ↔ s.sweep.Sound :=
  ⟨fun ⟨a, b, c, d, e, f⟩ => ⟨a, b, c, d, e, f⟩, fun ⟨a, b, c, d, e, f⟩ => ⟨a, b, c, d, e, f⟩⟩

theorem noSlotInFlight_iff (s : State) : noSlotInFlight s = true ↔ ∀ k, s.slot k = none := by
  simp [noSlotInFlight, slotsInFlight, List.filter_eq_nil_iff]

/-- While a job is RUNNING or ABORTING, any slot may be in flight. -/
theorem Sweep.Sound.setSlots {w : Sweep} (h : w.Sound) (slots : Vector (Option SlotWork) 4)
    (hb : w.engine = .idle ∨ w.engine = .ending → ∀ k : SlotId, slots[k] = none) : Sweep.Sound { w with slots := slots } :=
  { h with free := hb }

theorem Sweep.Sound.setJob {w : Sweep} (h : w.Sound) (j j' : Job) (hj : w.job = some j) (hs : j.sound → j'.sound)
    (ho : j'.outcome = j.outcome) : Sweep.Sound { w with job := some j' } := by
  obtain ⟨hsound, hout⟩ := h.job j hj
  refine { h with hasJob := fun _ => by simp, job := fun i hi => ?_ }
  obtain rfl := Option.mem_some_iff.mp hi
  exact ⟨hs hsound, by rw [ho]; exact hout⟩

/-- A RUNNING job that aborts (R106). -/
theorem Sweep.Sound.abort {w : Sweep} (h : w.Sound) (j : Job) (o : JobOutcome) (hj : w.job = some j) (he : w.engine = .running) :
    Sweep.Sound { w with engine := .aborting, job := some { j with outcome := some o } } := by
  have hw : ¬w.waiting.isSome = true := fun hs => by rw [h.waiting.mp hs] at he; cases he
  refine ⟨fun _ => by simp, fun i hi => ?_, (by rintro (he | he) <;> cases he), h.places,
    iff_of_false hw (by simp), (by rintro ⟨⟩)⟩
  obtain rfl := Option.mem_some_iff.mp hi
  exact ⟨(h.job j hj).1, by simp⟩

/-- A job that ends, with no slot in flight (R107, R109, R110). -/
theorem Sweep.Sound.ended {w : Sweep} (h : w.Sound) (j : Job) (o : JobOutcome) (hj : w.job = some j)
    (he : w.engine ≠ .ending) (hfree : ∀ k : SlotId, w.slots[k] = none) : (w.ended j o).Sound := by
  have hw : ¬w.waiting.isSome = true := fun hs => he (h.waiting.mp hs)
  have hsound : ({ j with outcome := some o } : Job).sound := (h.job j hj).1
  unfold Sweep.ended
  split
  · next hl =>
    refine ⟨fun _ => by simp, fun i hi => ?_, fun _ => hfree, ?_, iff_of_false hw (by simp), (by rintro ⟨⟩)⟩
    · obtain rfl := Option.mem_some_iff.mp hi
      exact ⟨hsound, by simp⟩
    · rw [List.length_append]; exact hl
  · next hl =>
    refine ⟨fun _ => by simp, fun i hi => ?_, fun _ => hfree, h.places, iff_of_true rfl rfl,
      fun _ => Nat.le_antisymm h.places (Nat.not_lt.mp hl)⟩
    obtain rfl := Option.mem_some_iff.mp hi
    exact ⟨hsound, by simp⟩

/-! ## Every step -/

/-- What the statement on the sweep engine keeps. -/
def SweepKept (s : State) : Prop := s.sweep.Sound

theorem SweepKept.of_eq {s t : State} (hs : SweepKept s) (h : t.sweep = s.sweep) : SweepKept t := by
  unfold SweepKept
  rw [h]
  exact hs

theorem SweepKept.slot_busy {s : State} (hs : SweepKept s) {k : SlotId} (h : (s.slot k).isSome = true) :
    ¬(s.sweep.engine = .idle ∨ s.sweep.engine = .ending) := fun he => by
  rw [show s.slot k = none from hs.free he k] at h
  cases h

theorem SweepKept.setSlot {s : State} (hs : SweepKept s) (k : SlotId) (x : Option SlotWork)
    (h : x = none ∨ ¬(s.sweep.engine = .idle ∨ s.sweep.engine = .ending)) : SweepKept (s.setSlot k x) := by
  refine hs.setSlots _ fun he m => ?_
  have hm := State.setSlot_slot s k x m
  rcases h with rfl | h
  · refine hm.trans ?_
    split
    · rfl
    · exact hs.free he m
  · exact absurd he h

theorem Job.Recounts.sound {j j' : Job} (h : j.Recounts j') (hs : j.sound) : j'.sound := by
  obtain ⟨he, hm, herr⟩ := h
  obtain ⟨hfirst, hlast, hwindow, hmis, herrors⟩ := hs
  refine ⟨?_, ?_, ?_, hm hmis, herr herrors⟩ <;> rw [he] <;> assumption

theorem Touch.sweepKept (s t : State) (h : Touch s t) (hs : SweepKept s) : SweepKept t := by
  cases h with
  | request t r k hk hr => rcases setRequest_cases t r s with ⟨k, -, he⟩ | ⟨-, he⟩ <;> rw [he] <;> exact hs
  | produce t st d => rcases produce_cases t st d s with ⟨r, -, he⟩ | ⟨-, he⟩ <;> rw [he] <;> exact hs
  | post b => rw [postRecord_frame]; exact hs
  | suspect e => rcases addSuspect_cases e s with ⟨l, -, he⟩ | ⟨-, he⟩ <;> rw [he] <;> exact hs
  | grant p u h => obtain ⟨-, q, ops, hq, rfl⟩ := grantOp_cases p s _ h; exact hs
  | slot k w h => exact hs.setSlot k _ (.inr (hs.slot_busy h))
  | count j j' hj h => exact Sweep.Sound.setJob hs j j' hj h.sound (by rw [h.1])
  | abort o =>
    rcases enterAborting_cases o s with h | ⟨he, ⟨j, hj, h⟩ | ⟨hj, h⟩⟩ <;> rw [h]
    · exact hs
    · exact Sweep.Sound.abort hs j o hj he
    · exact absurd hj (hs.hasJob (by simp [he]))
  | unsuspect _ | rotate _ | enlist _ _ => exact hs

theorem SweepKept.endJob {s : State} (hs : SweepKept s) (j : Job) (o : JobOutcome) (hj : s.sweep.job = some j)
    (he : s.sweep.engine ≠ .ending) (hfree : noSlotInFlight s = true) : SweepKept (endJob j o s) := by
  obtain ⟨planes, h⟩ := endJob_shape j o s
  rw [h]
  exact Sweep.Sound.ended hs j o hj he ((noSlotInFlight_iff s).mp hfree)

theorem SweepKept.completeJob {s : State} (hs : SweepKept s) : SweepKept (completeJob s) := by
  rcases completeJob_cases s with h | ⟨j, he, hj, hfree, -, h⟩ <;> rw [h]
  · exact hs
  · exact hs.endJob j .complete hj (by simp [he]) hfree

theorem SweepKept.endAbort {s : State} (hs : SweepKept s) : SweepKept (endAbort s) := by
  rcases endAbort_cases s with h | ⟨j, o, he, hj, -, hfree, -, h⟩ <;> rw [h]
  · exact hs
  · exact hs.endJob j o hj (by simp [he]) hfree

theorem SweepKept.placeNext {s : State} (hs : SweepKept s) : SweepKept (placeNext s).1 := by
  rcases placeNext_cases s with h | ⟨j, k, he, hj, -, hc, -, h⟩ <;> rw [h]
  · exact hs
  · refine Sweep.Sound.setJob (hs.setSlot k (some { line := j.cursor }) (.inr (by simp [he]))) j _ hj (fun hsound => ?_) rfl
    obtain ⟨hfirst, hlast, hrest⟩ := hsound
    exact ⟨Nat.le_succ_of_le hfirst, Nat.succ_le_succ hc, hrest⟩

theorem settleActs_sweepKept (acts : List Act) (s : State) (hs : SweepKept s) : SweepKept (settleActs acts s) := by
  refine settleActs_keeps SweepKept (perform_keeps SweepKept Touch.sweepKept ?_ ?_ ?_ (fun _ hs => hs.placeNext)
    fun _ hs => hs.completeJob) acts s hs
  · intro pos s hs
    cases pos with
    | host t => exact hs
    | slot k => exact SweepKept.setSlot (s := { s with locks := (lockRelease (.slot k) s.locks).1 }) hs k none (.inl rfl)
  · intro pos kind line s hs; exact hs
  · intro t s hs
    rcases placeHeldBack_cases t s with h | ⟨c, -, -, h⟩ <;> rw [h] <;> exact hs

theorem SweepKept.failFirst {s : State} (hs : SweepKept s) (p : PlaneId) (c : FailCause) : SweepKept (failFirst p c s) := by
  rcases failFirst_shape p c s with h | ⟨o, h⟩ <;> rw [h]
  · exact hs
  · have haborted : SweepKept (enterAborting o (s.setPlane p (failedRecord (s.plane p) c))) :=
      Touch.sweepKept _ _ (.abort o) hs
    exact haborted

theorem SweepKept.failPlane {s : State} (hs : SweepKept s) (p : PlaneId) (c : FailCause) : SweepKept (failPlane p c s) :=
  failPlane_closed SweepKept p c s (fun acts u _ hu => settleActs_sweepKept acts u hu)
    (fun b u hu => Touch.sweepKept u _ (.post b) hu) (fun _ _ _ hu => hu) (fun _ hu => hu) (fun _ _ hu => hu) (hs.failFirst p c) hs

theorem SweepKept.placeWaiting {s : State} (hs : SweepKept s) : SweepKept (Machine.placeWaiting s) := by
  rcases placeWaiting_cases s with h | ⟨c, he, hw, hl, h⟩ <;> rw [h]
  · exact hs
  · have := hs.full he
    omega

/-- A completion record read makes room for the one that waits (R111, R112). -/
theorem SweepKept.dropCompletion {s : State} (hs : SweepKept s) : SweepKept (Machine.placeWaiting (Machine.dropCompletion s)) := by
  have hlen : s.sweep.completions.tail.length = s.sweep.completions.length - 1 := List.length_tail
  have hplaces := hs.places
  rcases placeWaiting_cases (Machine.dropCompletion s) with h | ⟨c, he, hw, hl, h⟩
  · rw [h]
    have hne : s.sweep.engine ≠ .ending := by
      intro he
      obtain ⟨c, hc⟩ := Option.isSome_iff_exists.mp (hs.waiting.mpr he)
      have hfull := hs.full he
      have : (Machine.placeWaiting (Machine.dropCompletion s)).sweep.engine = .idle := by
        simp only [Machine.placeWaiting, Machine.dropCompletion, he, hc]
        rw [if_pos (by rw [hlen, hfull]; decide)]
      rw [h] at this
      rw [show (Machine.dropCompletion s).sweep.engine = s.sweep.engine from rfl, he] at this
      cases this
    exact ⟨hs.hasJob, hs.job, hs.free, (by show s.sweep.completions.tail.length ≤ _; omega), hs.waiting, fun he => absurd he hne⟩
  · rw [h]
    have hend : s.sweep.engine = .ending := he
    refine ⟨fun he => absurd rfl he, fun j hj => ?_, fun _ => hs.free (.inr hend), ?_, by simp, (by rintro ⟨⟩)⟩
    · obtain ⟨hsound, hout⟩ := hs.job j hj
      refine ⟨hsound, iff_of_false (by simp) fun ho => ?_⟩
      rw [hout.mpr ho] at hend
      cases hend
    · rw [List.length_append]
      exact hl

theorem Move.sweepKept (s t : State) (h : Move s t) (hs : SweepKept s) : SweepKept t := by
  cases h with
  | touch u h => exact h.sweepKept s _ hs
  | acts acts h => exact settleActs_sweepKept acts s hs
  | fail p c => exact hs.failPlane p c
  | countError p h =>
    have hcounted : SweepKept (s.setPlane p { s.plane p with errorCount := (s.plane p).errorCount + 1 }) := hs
    unfold countDataError
    dsimp only
    split
    · exact hcounted.failPlane p _
    · exact hcounted
  | drain p => rcases drainPlane_cases s p with h | ⟨-, -, h⟩ <;> rw [h] <;> exact hs
  | endAbort => exact hs.endAbort
  | complete => exact hs.completeJob
  | dropCompletion hf => exact hs.dropCompletion
  | placeWaiting => exact hs.placeWaiting
  | policies u hr hu => rw [hu]; exact hs
  | startJob j h =>
    obtain ⟨planes, he⟩ := jobSet_shape j s
    rw [he]
    refine ⟨fun _ => by simp, fun i hi => ?_, (by rintro (he | he) <;> cases he), hs.places,
      iff_of_false (fun hw => ?_) (by simp), (by rintro ⟨⟩)⟩
    · obtain rfl := Option.mem_some_iff.mp hi
      exact ⟨h.sound, iff_of_true rfl h.outcome⟩
    · have := hs.waiting.mp hw
      rw [h.idle] at this
      cases this
  | takeHead =>
    rcases takeHead_cases s with h | ⟨x, rest, hx, -, h⟩ <;> rw [h]
    · exact hs
    rcases freeTag_cases x.tag { s with responses := rest, out := { s.out with response := some x } } with
      ⟨-, h⟩ | h | ⟨r, -, h⟩ <;> rw [h] <;> exact hs
  | cut =>
    obtain ⟨_, _, h⟩ := channelCut_shape { s with pins := { s.pins with hrstLow := true } }
    rw [h]
    exact hs
  | powerOn => exact (sweepSound_iff State.reset).mp (by decide)
  | _ => exact hs

/-- Settles O14: each move keeps the engine's state in its relation. -/
theorem stepKeepsSweep : Obligations.StepKeepsSweep := fun s t hs h =>
  (sweepSound_iff t).mpr (step_keeps SweepKept Move.sweepKept (fun _ _ hs => hs) s t ((sweepSound_iff s).mp hs) h)

end Sys2Proof.Machine
end

section
/-! PROOFS. The divergence log and the suspect table through every step (R115 to R118, R125, R127), and the sticky causes (R177). -/

namespace Sys2Proof.Machine

/-! ## The log by itself -/

/-- What `LogSound` says, of the log alone. -/
structure DivLog.Sound (l : DivLog) : Prop where
  places : l.records.length ≤ Config.logPlaces
  overflow : l.overflow ≤ Config.countCeiling
  repeats : ∀ d ∈ l.records, 1 ≤ d.repeats ∧ d.repeats ≤ Config.repeatCeiling
  seqs : seqsEndAt l.nextSeq l.records = true

theorem logSound_iff (s : State) : LogSound s ↔ s.log.Sound := ⟨fun ⟨a, b, c, d⟩ => ⟨a, b, c, d⟩, fun ⟨a, b, c, d⟩ => ⟨a, b, c, d⟩⟩

theorem seqsEndAt_cons (next : BitVec 16) (d : DivRec) (l : List DivRec) :
    seqsEndAt next (d :: l) = true ↔ d.seq + BitVec.ofNat 16 (l.length + 1) = next ∧ seqsEndAt next l = true := by
  simp [seqsEndAt]

/-- A record appended takes the next sequence number. -/
theorem seqsEndAt_append (next : BitVec 16) (l : List DivRec) (d : DivRec) (hd : d.seq = next) (h : seqsEndAt next l = true) :
    seqsEndAt (next + 1) (l ++ [d]) = true := by
  induction l with
  | nil => simp [seqsEndAt, hd]
  | cons x l ih =>
    obtain ⟨hx, hl⟩ := (seqsEndAt_cons ..).mp h
    rw [List.cons_append, seqsEndAt_cons]
    refine ⟨?_, ih hl⟩
    rw [List.length_append, List.length_singleton, ← hx, BitVec.ofNat_add, ← BitVec.add_assoc]
    rfl

theorem seqsEndAt_suffix (next : BitVec 16) (l l' : List DivRec) (hl : l' <:+ l) (h : seqsEndAt next l = true) :
    seqsEndAt next l' = true := by
  obtain ⟨r, rfl⟩ := hl
  induction r with
  | nil => exact h
  | cons x r ih => exact ih ((seqsEndAt_cons ..).mp h).2

/-- The sequence numbers alone matter. -/
theorem seqsEndAt_congr (next : BitVec 16) (l l' : List DivRec) (h : l.map DivRec.seq = l'.map DivRec.seq) :
    seqsEndAt next l = seqsEndAt next l' := by
  induction l generalizing l' with
  | nil =>
    obtain rfl : l' = [] := by simpa using h.symm
    rfl
  | cons x l ih =>
    cases l' with
    | nil => simp at h
    | cons y l' =>
      rw [List.map_cons, List.map_cons, List.cons.injEq] at h
      have hlen : l.length = l'.length := by simpa using congrArg List.length h.2
      simp only [seqsEndAt, ih l' h.2, h.1, hlen]

theorem DivLog.Sound.append {l : DivLog} (h : l.Sound) (b : RecBody) (hroom : l.records.length < Config.logPlaces) :
    (l.append b).Sound := by
  refine ⟨?_, h.overflow, fun d hd => ?_, seqsEndAt_append _ _ _ rfl h.seqs⟩
  · show (l.records ++ [_]).length ≤ _
    rw [List.length_append]; exact hroom
  · rcases List.mem_append.mp hd with hd | hd
    · exact h.repeats d hd
    · rw [List.mem_singleton.mp hd]
      exact ⟨le_rfl, show 1 ≤ Config.repeatCeiling by decide⟩

/-- A run of the newest records is as sound. -/
theorem DivLog.Sound.cut {l : DivLog} (h : l.Sound) (r : List DivRec) (n : Nat) (hr : r <:+ l.records) (hn : n ≤ Config.countCeiling) :
    DivLog.Sound { l with records := r, overflow := n } :=
  ⟨hr.length_le.trans h.places, hn, fun d hd => h.repeats d (hr.subset hd), seqsEndAt_suffix _ _ _ hr h.seqs⟩

theorem DivLog.Sound.accept {l : DivLog} (h : l.Sound) (b : RecBody) : (l.accept b).Sound := by
  have hceiling : min (l.overflow + 1) Config.countCeiling ≤ Config.countCeiling := Nat.min_le_right ..
  unfold DivLog.accept
  split
  · next hfull =>
    have hlen : Config.logPlaces ≤ l.records.length := of_decide_eq_true hfull
    split
    · exact h.cut l.records _ (List.suffix_refl _) hceiling
    · refine (h.cut l.records.tail _ (List.tail_suffix _) hceiling).append b ?_
      have hplaces := h.places
      have hpos : 0 < Config.logPlaces := by decide
      show l.records.tail.length < _
      rw [List.length_tail]
      omega
  · next hroom => exact h.append b (by simpa [isFull] using hroom)

/-- A merge leaves the sequence numbers (R117). -/
theorem DivLog.Sound.merge {l : DivLog} (h : l.Sound) (b : RecBody) (d : DivRec) (hd : l.records.getLast? = some d) :
    DivLog.Sound { l with records := l.records.dropLast ++ [mergeInto b d] } := by
  have hsplit : l.records = l.records.dropLast ++ [d] := (List.dropLast_append_getLast? d hd).symm
  have hplaces := h.places
  have hseqs := h.seqs
  rw [hsplit] at hplaces hseqs
  refine ⟨by simpa using hplaces, h.overflow, fun x hx => ?_, ?_⟩
  · rcases List.mem_append.mp hx with hx | hx
    · exact h.repeats x (List.dropLast_subset _ hx)
    · rw [List.mem_singleton.mp hx]
      exact ⟨Nat.le_min.mpr ⟨Nat.le_add_left .., by decide⟩, Nat.min_le_right ..⟩
  · exact (seqsEndAt_congr _ _ _ (by simp [mergeInto])).trans hseqs

theorem postRecord_logSound (b : RecBody) (s : State) (h : s.log.Sound) : (postRecord b s).log.Sound := by
  unfold postRecord
  split
  · next r hr =>
    unfold mergedRecords at hr
    split at hr
    · next d hd =>
      split at hr
      · cases hr
        exact h.merge b d hd
      · cases hr
    · cases hr
  · dsimp only
    split <;> exact h.accept b

/-! ## The suspect table by itself -/

theorem suspectPut_sound (e : SuspectEntry) (l l' : List SuspectEntry) (h : suspectPut e l = some l')
    (hl : l.length ≤ Config.suspectPlaces ∧ (l.map SuspectEntry.line).Nodup) :
    l'.length ≤ Config.suspectPlaces ∧ (l'.map SuspectEntry.line).Nodup := by
  unfold suspectPut at h
  split at h
  · cases h
    have hlines : (l.map fun x => if x.line == e.line then e else x).map SuspectEntry.line = l.map SuspectEntry.line := by
      rw [List.map_map]
      refine List.map_congr_left fun x _ => ?_
      dsimp only [Function.comp]
      split
      · next hx => exact (beq_iff_eq.mp hx).symm
      · rfl
    rw [hlines, List.length_map]
    exact hl
  · next hnone =>
    split at h
    · next hroom =>
      cases h
      refine ⟨by rw [List.length_append]; exact hroom, ?_⟩
      rw [List.map_append, List.map_singleton, List.nodup_append]
      refine ⟨hl.2, List.nodup_singleton _, fun a ha b hb hab => hnone ?_⟩
      obtain ⟨x, hx, rfl⟩ := List.mem_map.mp ha
      rw [List.any_eq_true]
      exact ⟨x, hx, beq_iff_eq.mpr (hab.trans (List.mem_singleton.mp hb))⟩
    · cases h

theorem SuspectsSound.sublist {s : State} {l : List SuspectEntry} (h : SuspectsSound s) (hl : l.Sublist s.suspects) :
    l.length ≤ Config.suspectPlaces ∧ (l.map SuspectEntry.line).Nodup :=
  ⟨hl.length_le.trans h.1, h.2.sublist (hl.map _)⟩

/-! ## Sticky causes -/

theorem stickyOnly_or (x c : CauseSet) (hc : c &&& (causeCompletion ||| causeLogLevel) = 0)
    (h : x &&& (causeCompletion ||| causeLogLevel) = 0) : (x ||| c) &&& (causeCompletion ||| causeLogLevel) = 0 := by
  rw [BitVec.and_or_distrib_right, h, hc]
  rfl

/-! ## Every step -/

/-- What the statements on the log, the suspect table and the sticky causes keep: the tables under `a`, the causes under `b`, so that
each is kept without the other. -/
structure TablesKept (a b : Prop) (s : State) : Prop where
  log : a → s.log.Sound
  suspects : a → SuspectsSound s
  sticky : b → StickyOnly s

section
variable {a b : Prop}

theorem TablesKept.of_eq {s t : State} (hs : TablesKept a b s) (hl : t.log = s.log) (hu : t.suspects = s.suspects) (hk : t.sticky = s.sticky) :
    TablesKept a b t :=
  ⟨hl ▸ hs.log, by unfold SuspectsSound; rw [hu]; exact hs.suspects, by unfold StickyOnly; rw [hk]; exact hs.sticky⟩

theorem TablesKept.setSticky {s : State} (hs : TablesKept a b s) (c : CauseSet) (hc : c &&& (causeCompletion ||| causeLogLevel) = 0) :
    TablesKept a b (setSticky c s) :=
  ⟨hs.log, hs.suspects, fun hb => stickyOnly_or _ _ hc (hs.sticky hb)⟩

theorem TablesKept.postRecord {s : State} (hs : TablesKept a b s) (r : RecBody) : TablesKept a b (postRecord r s) := by
  refine ⟨fun ha => postRecord_logSound r s (hs.log ha), ?_, fun hb => ?_⟩
  · rw [postRecord_frame]; exact hs.suspects
  · show (Machine.postRecord r s).sticky &&& _ = 0
    rcases postRecord_sticky r s with h | ⟨-, h⟩ <;> rw [h]
    · exact hs.sticky hb
    · exact stickyOnly_or _ _ (by decide) (hs.sticky hb)

theorem Touch.tablesKept (s t : State) (h : Touch s t) (hs : TablesKept a b s) : TablesKept a b t := by
  cases h with
  | request t r k hk hr => rcases setRequest_cases t r s with ⟨k, -, he⟩ | ⟨-, he⟩ <;> rw [he] <;> exact hs.of_eq rfl rfl rfl
  | produce t st d => rcases produce_cases t st d s with ⟨r, -, he⟩ | ⟨-, he⟩ <;> rw [he] <;> exact hs.of_eq rfl rfl rfl
  | post b => exact hs.postRecord b
  | suspect e =>
    rcases addSuspect_cases e s with ⟨l, hl, he⟩ | ⟨-, he⟩ <;> rw [he]
    · exact ⟨hs.log, fun ha => suspectPut_sound e _ l hl (hs.suspects ha), hs.sticky⟩
    · exact hs.setSticky _ (by decide)
  | unsuspect line => exact ⟨hs.log, fun ha => SuspectsSound.sublist (hs.suspects ha) List.filter_sublist, hs.sticky⟩
  | grant p u h => obtain ⟨-, q, ops, -, rfl⟩ := grantOp_cases p s _ h; exact hs.of_eq rfl rfl rfl
  | abort o => rcases enterAborting_cases o s with h | ⟨-, ⟨j, -, h⟩ | ⟨-, h⟩⟩ <;> rw [h] <;> exact hs.of_eq rfl rfl rfl
  | rotate _ | enlist _ _ | slot _ _ _ | count _ _ _ _ => exact hs.of_eq rfl rfl rfl

theorem TablesKept.endJob {s : State} (hs : TablesKept a b s) (j : Job) (o : JobOutcome) : TablesKept a b (endJob j o s) := by
  obtain ⟨planes, h⟩ := endJob_shape j o s
  rw [h]
  exact hs.of_eq rfl rfl rfl

theorem settleActs_tablesKept (acts : List Act) (s : State) (hs : TablesKept a b s) : TablesKept a b (settleActs acts s) := by
  refine settleActs_keeps (TablesKept a b) (perform_keeps (TablesKept a b) Touch.tablesKept ?_ ?_ ?_ ?_ ?_) acts s hs
  · intro pos s hs; cases pos <;> exact hs.of_eq rfl rfl rfl
  · intro pos kind line s hs; exact hs.of_eq rfl rfl rfl
  · intro t s hs
    rcases placeHeldBack_cases t s with h | ⟨c, -, -, h⟩ <;> rw [h] <;> exact hs.of_eq rfl rfl rfl
  · intro s hs
    rcases placeNext_cases s with h | ⟨j, k, -, -, -, -, -, h⟩ <;> rw [h] <;> exact hs.of_eq rfl rfl rfl
  · intro s hs
    rcases completeJob_cases s with h | ⟨j, -, -, -, -, h⟩ <;> rw [h]
    · exact hs
    · exact hs.endJob j .complete

theorem TablesKept.failFirst {s : State} (hs : TablesKept a b s) (p : PlaneId) (c : FailCause) : TablesKept a b (failFirst p c s) := by
  have hfailed : TablesKept a b (s.setPlane p (failedRecord (s.plane p) c)) := hs.of_eq rfl rfl rfl
  rcases failFirst_shape p c s with h | ⟨o, h⟩ <;> rw [h]
  · exact hfailed.of_eq rfl rfl rfl
  · exact (Touch.tablesKept _ _ (.abort o) hfailed).of_eq rfl rfl rfl

theorem TablesKept.failPlane {s : State} (hs : TablesKept a b s) (p : PlaneId) (c : FailCause) : TablesKept a b (failPlane p c s) :=
  failPlane_closed (TablesKept a b) p c s (fun acts u _ hu => settleActs_tablesKept acts u hu) (fun b u hu => hu.postRecord b)
    (fun _ _ hc hu => hu.setSticky _ (by rcases hc with rfl | rfl <;> decide)) (fun _ hu => hu.of_eq rfl rfl rfl)
    (fun _ _ hu => hu.of_eq rfl rfl rfl) (hs.failFirst p c) hs

theorem TablesKept.postRecords {s : State} (hs : TablesKept a b s) (l : List RecBody) :
    TablesKept a b (l.foldl (fun s b => Machine.postRecord b s) s) := by
  induction l generalizing s with
  | nil => exact hs
  | cons b l ih => exact ih (hs.postRecord b)

theorem TablesKept.cutOffTag {s : State} (hs : TablesKept a b s) (t : Tag) : TablesKept a b (cutOffTag s t) := by
  unfold Machine.cutOffTag
  split
  · split
    · split
      · exact hs.of_eq rfl rfl rfl
      · next r _ _ =>
        have hset : TablesKept a b (s.setPosition t { kept := some (r.cutOff (unissuedPlanes s t)), heldBack := none }) :=
          hs.of_eq rfl rfl rfl
        exact hset.postRecords (orphanRecords t r (unissuedPlanes s t))
    · exact hs.of_eq rfl rfl rfl
  · exact hs.of_eq rfl rfl rfl

theorem TablesKept.cutOffTags {s : State} (hs : TablesKept a b s) (l : List Tag) : TablesKept a b (l.foldl Machine.cutOffTag s) := by
  induction l generalizing s with
  | nil => exact hs
  | cons t l ih => exact ih (hs.cutOffTag t)

theorem TablesKept.channelCut {s : State} (hs : TablesKept a b s) : TablesKept a b (channelCut s) := by
  obtain ⟨_, _, h⟩ := channelCut_shape s
  obtain ⟨_, _, _, hcut⟩ := foldl_cutOffTag_shape allTags s
  have hafter := hs.cutOffTags allTags
  refine hafter.of_eq ?_ ?_ ?_ <;> rw [h]
  rw [hcut]

theorem Move.tablesKept (s t : State) (h : Move s t) (hs : TablesKept a b s) : TablesKept a b t := by
  cases h with
  | touch u h => exact h.tablesKept s _ hs
  | acts acts h => exact settleActs_tablesKept acts s hs
  | fail p c => exact hs.failPlane p c
  | countError p h =>
    have hcounted : TablesKept a b (s.setPlane p { s.plane p with errorCount := (s.plane p).errorCount + 1 }) := hs.of_eq rfl rfl rfl
    unfold countDataError
    dsimp only
    split
    · exact hcounted.failPlane p _
    · exact hcounted
  | drain p => rcases drainPlane_cases s p with h | ⟨-, -, h⟩ <;> rw [h] <;> exact hs.of_eq rfl rfl rfl
  | endAbort =>
    rcases endAbort_cases s with h | ⟨j, o, -, -, -, -, -, h⟩ <;> rw [h]
    · exact hs
    · exact hs.endJob j o
  | complete =>
    rcases completeJob_cases s with h | ⟨j, -, -, -, -, h⟩ <;> rw [h]
    · exact hs
    · exact hs.endJob j .complete
  | dropCompletion hf =>
    rcases placeWaiting_cases (Machine.dropCompletion s) with h | ⟨c, -, -, -, h⟩ <;> rw [h] <;> exact hs.of_eq rfl rfl rfl
  | placeWaiting => rcases placeWaiting_cases s with h | ⟨c, -, -, -, h⟩ <;> rw [h] <;> exact hs.of_eq rfl rfl rfl
  | policies _ hr hu =>
    rw [hu]
    exact ⟨fun ha => { hs.log ha with }, hs.suspects, hs.sticky⟩
  | geometry code h => exact ⟨hs.log, by simp [SuspectsSound], hs.sticky⟩
  | logCut l n hl hn => exact ⟨fun ha => (hs.log ha).cut l n hl (hn.trans (hs.log ha).overflow), hs.suspects, hs.sticky⟩
  | suspectsCut l h => exact ⟨hs.log, fun ha => SuspectsSound.sublist (hs.suspects ha) h, hs.sticky⟩
  | acknowledge m =>
    refine ⟨hs.log, hs.suspects, fun hb => ?_⟩
    show (s.sticky &&& m) &&& _ = 0
    rw [BitVec.and_assoc, BitVec.and_comm m, ← BitVec.and_assoc, hs.sticky hb]
    simp
  | discard t kind => exact TablesKept.setSticky (s := { s with protoErr := some { tag := t, kind := kind } }) (hs.of_eq rfl rfl rfl) _ (by decide)
  | startJob j h => obtain ⟨planes, he⟩ := jobSet_shape j s; rw [he]; exact hs.of_eq rfl rfl rfl
  | takeHead =>
    rcases takeHead_cases s with h | ⟨x, rest, -, -, h⟩ <;> rw [h]
    · exact hs
    rcases freeTag_cases x.tag { s with responses := rest, out := { s.out with response := some x } } with
      ⟨-, h⟩ | h | ⟨r, -, h⟩ <;> rw [h] <;> exact hs.of_eq rfl rfl rfl
  | cut => exact TablesKept.channelCut (hs.of_eq rfl rfl rfl)
  | powerOn => exact TablesKept.of_eq (s := State.reset) ⟨fun _ => (logSound_iff _).mp (by decide), fun _ => by decide, fun _ => by decide⟩ rfl rfl rfl
  | _ => exact hs.of_eq rfl rfl rfl

end

end Sys2Proof.Machine
end

section
/-! PROOFS. The failure of a plane as a whole (R6): which plane records it leaves, and what it writes of service and of the
management port; and the completion queue through an event. -/

namespace Sys2Proof.Machine

/-! ## The completion queue through an event -/

/-- Records join the completion queue at its tail (R111). -/
def CompletionsGrow (s t : State) : Prop := s.sweep.completions <+: t.sweep.completions

theorem CompletionsGrow.of_eq {s t : State} (h : t.sweep.completions = s.sweep.completions) : CompletionsGrow s t := by
  unfold CompletionsGrow
  rw [h]

theorem CompletionsGrow.refl (s : State) : CompletionsGrow s s := .of_eq rfl

theorem CompletionsGrow.trans {s t u : State} (h : CompletionsGrow s t) (k : CompletionsGrow t u) : CompletionsGrow s u :=
  List.IsPrefix.trans h k

theorem CompletionsGrow.head {s t : State} (h : CompletionsGrow s t) {c : CompletionRec} (hc : s.sweep.completions.head? = some c) :
    t.sweep.completions.head? = some c := by
  obtain ⟨l, hl⟩ := h
  rw [← hl, List.head?_append, hc]
  rfl

theorem Touch.completionsGrow (s t : State) (h : Touch s t) : CompletionsGrow s t := by
  cases h with
  | request t r k hk hr => rcases setRequest_cases t r s with ⟨k, -, he⟩ | ⟨-, he⟩ <;> rw [he] <;> exact .of_eq rfl
  | produce t st d => rcases produce_cases t st d s with ⟨r, -, he⟩ | ⟨-, he⟩ <;> rw [he] <;> exact .of_eq rfl
  | post b => rw [postRecord_frame]; exact .of_eq rfl
  | suspect e => rcases addSuspect_cases e s with ⟨l, -, he⟩ | ⟨-, he⟩ <;> rw [he] <;> exact .of_eq rfl
  | grant p u h => obtain ⟨-, q, ops, -, rfl⟩ := grantOp_cases p s _ h; exact .of_eq rfl
  | abort o => rcases enterAborting_cases o s with h | ⟨-, ⟨j, -, h⟩ | ⟨-, h⟩⟩ <;> rw [h] <;> exact .of_eq rfl
  | unsuspect _ | rotate _ | enlist _ _ | slot _ _ _ | count _ _ _ _ => exact .of_eq rfl

theorem endJob_completionsGrow (j : Job) (o : JobOutcome) (s : State) : CompletionsGrow s (endJob j o s) := by
  obtain ⟨planes, h⟩ := endJob_shape j o s
  rw [h]
  unfold CompletionsGrow Sweep.ended
  split
  · exact List.prefix_append ..
  · exact List.prefix_refl _

theorem completeJob_completionsGrow (s : State) : CompletionsGrow s (completeJob s) := by
  rcases completeJob_cases s with h | ⟨j, -, -, -, -, h⟩ <;> rw [h]
  · exact .refl s
  · exact endJob_completionsGrow j .complete s

theorem endAbort_completionsGrow (s : State) : CompletionsGrow s (endAbort s) := by
  rcases endAbort_cases s with h | ⟨j, o, -, -, -, -, -, h⟩ <;> rw [h]
  · exact .refl s
  · exact endJob_completionsGrow j o s

theorem settleActs_completionsGrow (acts : List Act) (s : State) : CompletionsGrow s (settleActs acts s) := by
  refine settleActs_keeps (CompletionsGrow s) (perform_keeps (CompletionsGrow s) (fun _ _ h hs => hs.trans (h.completionsGrow _ _))
    ?_ ?_ ?_ ?_ fun _ hs => hs.trans (completeJob_completionsGrow _)) acts s (.refl s)
  · intro pos u hs; cases pos <;> exact hs.trans (.of_eq rfl)
  · intro pos kind line u hs; exact hs.trans (.of_eq rfl)
  · intro t u hs
    rcases placeHeldBack_cases t u with h | ⟨c, -, -, h⟩ <;> rw [h] <;> exact hs.trans (.of_eq rfl)
  · intro u hs
    rcases placeNext_cases u with h | ⟨j, k, -, -, -, -, -, h⟩ <;> rw [h] <;> exact hs.trans (.of_eq rfl)

/-! ## A failure -/

theorem abortOnFailure_frame (was : PlaneState) (s : State) :
    ∃ sweep, abortOnFailure was s = { s with sweep := sweep } ∧ sweep.completions = s.sweep.completions ∧
      (sweep.engine = .running → s.sweep.engine = .running) := by
  have habort : ∀ o, ∃ sweep, enterAborting o s = { s with sweep := sweep } ∧ sweep.completions = s.sweep.completions ∧
      (sweep.engine = .running → s.sweep.engine = .running) := by
    intro o
    rcases enterAborting_cases o s with h | ⟨-, ⟨j, -, h⟩ | ⟨-, h⟩⟩ <;> exact ⟨_, h, rfl, by simp⟩
  unfold abortOnFailure
  split
  · split
    · exact habort _
    · split
      · exact habort _
      · exact ⟨_, rfl, rfl, id⟩
  · exact ⟨_, rfl, rfl, id⟩

/-- What the first steps of a failure write (R6, R144). -/
theorem failFirst_frame (p : PlaneId) (c : FailCause) (s : State) :
    ∃ sweep, failFirst p c s = { (s.setPlane p (failedRecord (s.plane p) c)).setPort p (s.port p).flushed with sweep := sweep } ∧
      sweep.completions = s.sweep.completions ∧ (sweep.engine = .running → s.sweep.engine = .running) := by
  obtain ⟨sweep, h, hc, hr⟩ := abortOnFailure_frame (s.plane p).state (s.setPlane p (failedRecord (s.plane p) c))
  refine ⟨sweep, ?_, hc, hr⟩
  unfold failFirst
  rw [h]
  rfl

theorem failFirst_plane (p : PlaneId) (c : FailCause) (s : State) (q : PlaneId) :
    (failFirst p c s).plane q = if q = p then failedRecord (s.plane p) c else s.plane q := by
  obtain ⟨sweep, h, -, -⟩ := failFirst_frame p c s
  rw [h]
  exact State.setPlane_plane s p _ q

theorem failFirst_online (p : PlaneId) (c : FailCause) (s : State) :
    onlinePlanes (failFirst p c s) = 0 ↔ ∀ q, q ≠ p → (s.plane q).state ≠ .online := by
  rw [show (0 : PlaneSet) = 0#4 from rfl, onlinePlanes_eq_zero]
  simp only [failFirst_plane]
  constructor
  · intro h q hq
    simpa [hq] using h q
  · intro h q
    by_cases hq : q = p
    · simp [hq, failedRecord]
    · simpa [hq] using h q hq

theorem inner_failFirst (p : PlaneId) (c : FailCause) (s : State) : Inner s (failFirst p c s) := by
  obtain ⟨sweep, h, -, -⟩ := failFirst_frame p c s
  rw [h]
  rfl

/-- The state in which the acts of a failure have been settled and its record posted. -/
def failureSettled (p : PlaneId) (c : FailCause) (s : State) : State :=
  setSticky causePlaneFailed (postRecord (failureRecord p c)
    (settleActs ((s.port p).allOps.map fun op => Act.deliver op p .lost) (failFirst p c s)))

theorem inner_failureSettled (p : PlaneId) (c : FailCause) (s : State) : Inner s (failureSettled p c s) :=
  (((inner_failFirst p c s).trans (inner_settleActs ..)).trans (inner_postRecord ..)).trans rfl

theorem failureSettled_planesGo (p : PlaneId) (c : FailCause) (s : State) : PlanesGo (failFirst p c s) (failureSettled p c s) := by
  unfold failureSettled
  generalize (s.port p).allOps.map (fun op => Act.deliver op p .lost) = acts
  have hposted := Touch.planesGo (settleActs acts (failFirst p c s)) _ (.post (failureRecord p c))
  exact ((settleActs_planesGo acts _).trans _ _ _ hposted).trans _ _ _ (.of_eq rfl rfl)

theorem failureSettled_completionsGrow (p : PlaneId) (c : FailCause) (s : State) : CompletionsGrow s (failureSettled p c s) := by
  obtain ⟨sweep, h, hc, -⟩ := failFirst_frame p c s
  have hfirst : CompletionsGrow s (failFirst p c s) := .of_eq (by rw [h]; exact hc)
  unfold failureSettled
  generalize (s.port p).allOps.map (fun op => Act.deliver op p .lost) = acts
  have hposted := Touch.completionsGrow (settleActs acts (failFirst p c s)) _ (.post (failureRecord p c))
  exact ((hfirst.trans (settleActs_completionsGrow ..)).trans hposted).trans (.of_eq rfl)

/-- A failure in full: a plane in service fails, its ops' owners are told, service halts with the last ONLINE plane (R6 step 6), and a
pending PLANE_DETACH of the plane is answered (R6 step 7). -/
theorem failPlane_failed (p : PlaneId) (c : FailCause) (s : State) (h : (s.plane p).state.inService = true) :
    failPlane p c s = failDetach (s.plane p).state
      (haltService ((s.plane p).state == .online && onlinePlanes (failFirst p c s) == 0) (failureSettled p c s)) := by
  unfold failPlane
  rw [if_pos h]
  rfl

theorem haltService_frame (b : Bool) (s : State) :
    ∃ sticky, haltService b s = { s with service := if b then .halted else s.service, sticky := sticky } := by
  unfold haltService
  cases b with
  | false => exact ⟨_, rfl⟩
  | true =>
    split
    · exact ⟨_, rfl⟩
    · next h =>
      have hs : s.service = .halted := by cases hv : s.service <;> simp_all
      exact ⟨s.sticky, by rw [if_pos rfl, ← hs]⟩

/-- What a failure leaves of planes, service and management port. -/
structure Fails (p : PlaneId) (c : FailCause) (s t : State) : Prop where
  failed : t.plane p = failedRecord (s.plane p) c
  other : ∀ q, q ≠ p → t.plane q = s.plane q ∨
    (s.plane q).state = .syncing ∧ s.sweep.engine = .running ∧ t.plane q = { s.plane q with state := .online, errorCount := 0 }
  service : t.service = if (s.plane p).state = .online ∧ ∀ q, q ≠ p → (s.plane q).state ≠ .online then .halted else s.service
  mgmt : t.mgmt = if (s.plane p).state = .detaching then
    { s.mgmt with result := some { code := .planeFailed, payload := [] }, busy := false } else s.mgmt
  completions : CompletionsGrow s t
  frame : t = { s with
    planes := t.planes, locks := t.locks, positions := t.positions, tags := t.tags, responses := t.responses
    rotation := t.rotation, ports := t.ports, sweep := t.sweep, log := t.log, suspects := t.suspects, sticky := t.sticky
    out := t.out, service := t.service, mgmt := t.mgmt }

/-- What no act writes stays beside service, sticky causes and management port. -/
theorem Inner.written {s u : State} (h : Inner s u) (v : ServiceState) (c : CauseSet) (m : Mgmt) :
    ({ u with service := v, sticky := c, mgmt := m } : State) = { s with
      planes := u.planes, locks := u.locks, positions := u.positions, tags := u.tags, responses := u.responses
      rotation := u.rotation, ports := u.ports, sweep := u.sweep, log := u.log, suspects := u.suspects, sticky := c
      out := u.out, service := v, mgmt := m } := by
  conv => lhs; rw [h]

theorem failPlane_fails (p : PlaneId) (c : FailCause) (s : State) (h : (s.plane p).state.inService = true) :
    Fails p c s (failPlane p c s) := by
  have hgo := failureSettled_planesGo p c s
  have hgrow := failureSettled_completionsGrow p c s
  have hinner := inner_failureSettled p c s
  have honline := failFirst_online p c s
  obtain ⟨sweep, hfirst, -, hrunning⟩ := failFirst_frame p c s
  rw [failPlane_failed p c s h]
  generalize failureSettled p c s = u at hgo hgrow hinner
  have hsettled : u.plane p = failedRecord (s.plane p) c ∧ ∀ q, q ≠ p → u.plane q = s.plane q ∨
      (s.plane q).state = .syncing ∧ s.sweep.engine = .running ∧ u.plane q = { s.plane q with state := .online, errorCount := 0 } := by
    refine ⟨?_, fun q hq => ?_⟩
    · have hp := hgo.plane p
      rw [failFirst_plane, if_pos rfl] at hp
      exact hp.resolve_right nofun
    · have hp := hgo.plane q
      rw [failFirst_plane, if_neg hq] at hp
      exact hp.imp id fun ⟨hs, hr, he⟩ => ⟨hs, hrunning (by rw [hfirst] at hr; exact hr), he⟩
  obtain ⟨sticky, hhalt⟩ := haltService_frame ((s.plane p).state == .online && onlinePlanes (failFirst p c s) == 0) u
  rw [hhalt]
  have hservice : u.service = s.service := by rw [hinner]
  have hmgmt : u.mgmt = s.mgmt := by rw [hinner]
  have hlast : (if ((s.plane p).state == .online && onlinePlanes (failFirst p c s) == 0) = true then ServiceState.halted else u.service) =
      if (s.plane p).state = .online ∧ ∀ q, q ≠ p → (s.plane q).state ≠ .online then .halted else s.service := by
    rw [hservice]
    simp only [Bool.and_eq_true, beq_iff_eq, honline]
  unfold failDetach
  split
  · next hd =>
    refine ⟨hsettled.1, hsettled.2, hlast, by rw [if_pos hd, ← hmgmt]; rfl, hgrow, ?_⟩
    exact hinner.written _ _ _
  · next hd =>
    refine ⟨hsettled.1, hsettled.2, hlast, by rw [if_neg hd, ← hmgmt], hgrow, ?_⟩
    exact hinner.written _ _ _

section
variable {p : PlaneId} {c : FailCause} {s t : State}

theorem Fails.pins (h : Fails p c s t) : t.pins = s.pins := by rw [h.frame]

theorem Fails.regions (h : Fails p c s t) : t.regions = s.regions := by rw [h.frame]

theorem Fails.requestAssembly (h : Fails p c s t) : t.requestAssembly = s.requestAssembly := by rw [h.frame]

end

end Sys2Proof.Machine
end

section
/-! PROOFS. Service, the pending PLANE_DETACH and the frame in progress through every step (R12, R13, R17, R18, R166, R170 to R173). -/

namespace Sys2Proof.Machine

/-! ## Service and PLANE_DETACH -/

/-- What the statement on service and PLANE_DETACH keeps. -/
def ServeKept (s : State) : Prop := ServiceBacked s ∧ DetachTracked s

/-- The planes change in nothing that service or a pending PLANE_DETACH rests on: no ONLINE plane leaves, none starts or stops
DETACHING. -/
structure KeepsServing (s t : State) : Prop where
  online : ∀ p, (s.plane p).state = .online → (t.plane p).state = .online
  detaching : ∀ p, (t.plane p).state = .detaching ↔ (s.plane p).state = .detaching
  service : t.service = s.service
  busy : t.mgmt.busy = s.mgmt.busy
  result : s.mgmt.busy = true → t.mgmt.result = s.mgmt.result ∨ t.mgmt.result = none

theorem ServeKept.go {s t : State} (hs : ServeKept s) (h : KeepsServing s t) : ServeKept t := by
  obtain ⟨hbacked, hbusy, hone, hempty⟩ := hs
  refine ⟨fun ht => ?_, ?_, fun p q hp hq => ?_, fun hb => ?_⟩
  · obtain ⟨p, hp⟩ := hbacked (h.service ▸ ht)
    exact ⟨p, h.online p hp⟩
  · rw [h.busy, hbusy]
    exact exists_congr fun p => (h.detaching p).symm
  · exact hone p q ((h.detaching p).mp hp) ((h.detaching q).mp hq)
  · rw [h.busy] at hb
    rcases h.result hb with he | he
    · exact he.trans (hempty hb)
    · exact he

theorem KeepsServing.of_planes {s t : State} (h : t.planes = s.planes) (hs : t.service = s.service) (hm : t.mgmt = s.mgmt) :
    KeepsServing s t := by
  have hp : ∀ p, t.plane p = s.plane p := fun p => by simp only [State.plane, h]
  exact ⟨fun p hp' => (hp p).symm ▸ hp', fun p => by rw [hp p], hs, by rw [hm], fun _ => .inl (by rw [hm])⟩

theorem ServeKept.of_eq {s t : State} (hs : ServeKept s) (h : t.planes = s.planes) (hv : t.service = s.service) (hm : t.mgmt = s.mgmt) :
    ServeKept t := hs.go (.of_planes h hv hm)

/-- One plane record changes between states other than DETACHING, and not from ONLINE to another. -/
theorem KeepsServing.of_plane {s t : State} (p : PlaneId) (ho : ∀ q, q ≠ p → t.plane q = s.plane q)
    (hon : (s.plane p).state = .online → (t.plane p).state = .online)
    (hd : (t.plane p).state = .detaching ↔ (s.plane p).state = .detaching) (hs : t.service = s.service) (hm : t.mgmt = s.mgmt) :
    KeepsServing s t := by
  refine ⟨fun q hq => ?_, fun q => ?_, hs, by rw [hm], fun _ => .inl (by rw [hm])⟩
  · by_cases h : q = p
    · subst h; exact hon hq
    · rw [ho q h]; exact hq
  · by_cases h : q = p
    · subst h; exact hd
    · rw [ho q h]

theorem PlanesGo.keepsServing {s t : State} (h : PlanesGo s t) (hi : Inner s t) : KeepsServing s t := by
  refine ⟨fun p hp => ?_, fun p => ?_, by rw [hi], by rw [hi], fun _ => .inl (by rw [hi])⟩
  · rcases h.plane p with he | ⟨-, -, he⟩ <;> rw [he]
    exact hp
  · rcases h.plane p with he | ⟨hs, -, he⟩ <;> rw [he]
    simp [hs]

theorem endJob_keepsServing (j : Job) (o : JobOutcome) (s : State) : KeepsServing s (endJob j o s) := by
  have hi := inner_endJob j o s
  refine ⟨fun p hp => ?_, fun p => ?_, by rw [hi], by rw [hi], fun _ => .inl (by rw [hi])⟩
  · rw [endJob_plane, if_neg (by simp [hp])]
    exact hp
  · rw [endJob_plane]
    split
    · next h => split <;> simp [h.2]
    · exact Iff.rfl

theorem inner_touch {s t : State} (h : Touch s t) : Inner s t := by
  cases h with
  | request t r k hk hr => exact inner_setRequest t r s
  | produce t st d => exact inner_produce t st d s
  | post b => exact inner_postRecord b s
  | suspect e => exact inner_addSuspect e s
  | grant p u h => obtain ⟨-, q, ops, -, rfl⟩ := grantOp_cases p s _ h; rfl
  | abort o => exact inner_enterAborting o s
  | unsuspect _ | rotate _ | enlist _ _ | slot _ _ _ | count _ _ _ _ => rfl

theorem Fails.serveKept {p : PlaneId} {c : FailCause} {s t : State} (h : Fails p c s t) (hs : ServeKept s) : ServeKept t := by
  obtain ⟨hbacked, hbusy, hone, hempty⟩ := hs
  have hfailed : (t.plane p).state = .failed := by rw [h.failed]; rfl
  have hdetaching : ∀ q, (t.plane q).state = .detaching ↔ q ≠ p ∧ (s.plane q).state = .detaching := by
    intro q
    by_cases hq : q = p
    · simp [hq, hfailed]
    · rcases h.other q hq with he | ⟨hsync, -, he⟩ <;> simp [he, hq]
      simp [hsync]
  refine ⟨fun ht => ?_, ?_, fun q r hq hr => hone q r ((hdetaching q).mp hq).2 ((hdetaching r).mp hr).2, fun hb => ?_⟩
  · rw [h.service] at ht
    split at ht
    · cases ht
    · next hnot =>
      have hleft : ∃ q, q ≠ p ∧ (s.plane q).state = .online := by
        by_cases hp : (s.plane p).state = .online
        · by_contra hn
          exact hnot ⟨hp, fun q hq ho => hn ⟨q, hq, ho⟩⟩
        · obtain ⟨q, hq⟩ := hbacked ht
          exact ⟨q, fun he => hp (he ▸ hq), hq⟩
      obtain ⟨q, hq, ho⟩ := hleft
      refine ⟨q, ?_⟩
      rcases h.other q hq with he | ⟨-, -, he⟩ <;> rw [he]
      exact ho
  · rw [h.mgmt]
    split
    · next hp =>
      refine iff_of_false (by simp) fun ⟨q, hq⟩ => ?_
      obtain ⟨hne, hd⟩ := (hdetaching q).mp hq
      exact hne (hone q p hd hp)
    · next hp =>
      rw [hbusy]
      refine exists_congr fun q => ?_
      rw [hdetaching]
      exact ⟨fun hd => ⟨fun he => hp (he ▸ hd), hd⟩, And.right⟩
  · rw [h.mgmt] at hb ⊢
    split at hb
    · cases hb
    · next hp => rw [if_neg hp]; exact hempty hb

theorem ServeKept.failPlane {s : State} (hs : ServeKept s) (p : PlaneId) (c : FailCause) : ServeKept (failPlane p c s) := by
  cases h : (s.plane p).state.inService with
  | false => rw [failPlane_out_of_service p c s h]; exact hs
  | true => exact (failPlane_fails p c s h).serveKept hs

theorem ServeKept.post {s : State} (hs : ServeKept s) (c : ResultCode) (l : List Byte) (hb : s.mgmt.busy = false) :
    ServeKept (postResult c l s) := by
  refine hs.go ⟨fun _ hp => hp, fun _ => Iff.rfl, rfl, hb.symm, fun h => ?_⟩
  rw [hb] at h
  cases h

/-- The one DETACHING plane drained (R13). -/
theorem ServeKept.drain {s : State} (hs : ServeKept s) (p : PlaneId) : ServeKept (drainPlane s p) := by
  rcases drainPlane_cases s p with h | ⟨hp, -, h⟩ <;> rw [h]
  · exact hs
  obtain ⟨hbacked, -, hone, -⟩ := hs
  have hplane : ∀ q, (postResult .done [] (s.setPlane p { s.plane p with state := .offline })).plane q =
      if q = p then { s.plane p with state := .offline } else s.plane q := fun q => State.setPlane_plane s p _ q
  have hnone : ∀ q, ((postResult .done [] (s.setPlane p { s.plane p with state := .offline })).plane q).state ≠ .detaching := by
    intro q hq
    rw [hplane] at hq
    split at hq
    · cases hq
    · next hne => exact hne (hone q p hq hp)
  refine ⟨fun ht => ?_, iff_of_false (by simp [postResult]) fun ⟨q, hq⟩ => hnone q hq, fun q _ hq _ => absurd hq (hnone q), nofun⟩
  obtain ⟨q, hq⟩ := hbacked ht
  refine ⟨q, ?_⟩
  rw [hplane, if_neg (fun he => by rw [he, hp] at hq; cases hq)]
  exact hq

/-- A PLANE_DETACH accepted leaves another plane ONLINE (R12). -/
theorem ServeKept.detach {s : State} (hs : ServeKept s) (p : PlaneId) (hb : s.mgmt.busy = false) (hr : s.mgmt.result = none)
    (ho : ∃ q, q ≠ p ∧ (s.plane q).state = .online) :
    ServeKept { s.setPlane p { s.plane p with state := .detaching } with mgmt := { s.mgmt with busy := true } } := by
  generalize hu : ({ s.setPlane p { s.plane p with state := .detaching } with mgmt := { s.mgmt with busy := true } } : State) = u
  have hplane : ∀ q, u.plane q = if q = p then { s.plane p with state := .detaching } else s.plane q := fun q => by
    rw [← hu]; exact State.setPlane_plane s p _ q
  have hmgmt : u.mgmt = { s.mgmt with busy := true } := by rw [← hu]
  obtain ⟨-, hbusy, -, -⟩ := hs
  have honly : ∀ q, (u.plane q).state = .detaching → q = p := by
    intro q hq
    rw [hplane] at hq
    split at hq
    · next he => exact he
    · rw [hbusy.mpr ⟨q, hq⟩] at hb; cases hb
  refine ⟨fun _ => ?_, iff_of_true (by rw [hmgmt]) ⟨p, ?_⟩, fun q r hq hr => (honly q hq).trans (honly r hr).symm,
    fun _ => by rw [hmgmt]; exact hr⟩
  · obtain ⟨q, hq, hon⟩ := ho
    exact ⟨q, by rw [hplane, if_neg hq]; exact hon⟩
  · rw [hplane, if_pos rfl]

theorem jobSet_plane (j : Job) (s : State) (p : PlaneId) : (jobSet j s).plane p =
    if inSet j.targets p = true then { s.plane p with state := .syncing, errorCount := 0, cause := none } else s.plane p := by
  have hfold : ∀ (l : List PlaneId) (s : State), (l.foldl enterSyncing s).plane p =
      if p ∈ l then { s.plane p with state := .syncing, errorCount := 0, cause := none } else s.plane p := by
    intro l
    induction l with
    | nil => intro s; rfl
    | cons q l ih =>
      intro s
      rw [List.foldl_cons, ih, enterSyncing, State.setPlane_plane]
      by_cases h : p = q <;> by_cases hm : p ∈ l <;> simp [h, hm]
  show ((planesOf j.targets).foldl enterSyncing s).plane p = _
  rw [hfold]
  simp

theorem JobAccepted.keepsServing {j : Job} {s : State} (h : JobAccepted j s) : KeepsServing s (jobSet j s) := by
  obtain ⟨planes, he⟩ := jobSet_shape j s
  refine ⟨fun p hp => ?_, fun p => ?_, by rw [he], by rw [he], fun _ => .inl (by rw [he])⟩ <;> rw [jobSet_plane]
  · rw [if_neg fun ht => by rw [h.targets p ht] at hp; cases hp]
    exact hp
  · split
    · next ht => simp [h.targets p ht]
    · exact Iff.rfl

theorem poweredOn_plane (s : State) (p : PlaneId) :
    (poweredOn s).plane p = { state := .offline, link := linkOf s.pins.lrdy[p], errorCount := 0, cause := none } := by
  simp [poweredOn, sampleLinks, State.plane, State.reset]

theorem sampleLinks_plane (s : State) (p : PlaneId) : (sampleLinks s).plane p = { s.plane p with link := linkOf s.pins.lrdy[p] } := by
  simp [sampleLinks, State.plane]

theorem Move.serveKept (s t : State) (h : Move s t) (hs : ServeKept s) : ServeKept t := by
  cases h with
  | touch u h => exact hs.go ((h.planesGo s _).keepsServing (inner_touch h))
  | acts acts h => exact hs.go ((settleActs_planesGo acts s).keepsServing (inner_settleActs acts s))
  | fail p c => exact hs.failPlane p c
  | countError p h =>
    have hcounted : ServeKept (s.setPlane p { s.plane p with errorCount := (s.plane p).errorCount + 1 }) :=
      hs.go (.of_plane p (fun q hq => State.setPlane_plane_other s p _ q hq) (by rw [State.setPlane_plane_same]; exact id)
        (by rw [State.setPlane_plane_same]) rfl rfl)
    unfold countDataError
    dsimp only
    split
    · exact hcounted.failPlane p _
    · exact hcounted
  | drain p => exact hs.drain p
  | endAbort =>
    rcases endAbort_cases s with h | ⟨j, o, -, -, -, -, -, h⟩ <;> rw [h]
    · exact hs
    · exact hs.go (endJob_keepsServing j o s)
  | complete =>
    rcases completeJob_cases s with h | ⟨j, -, -, -, -, h⟩ <;> rw [h]
    · exact hs
    · exact hs.go (endJob_keepsServing j .complete s)
  | frame m hb hr hf => exact hs.go ⟨fun _ hp => hp, fun _ => Iff.rfl, rfl, hb, fun _ => hr⟩
  | post c l hb hf => exact hs.post c l hb
  | dropCompletion hf =>
    rcases placeWaiting_cases (Machine.dropCompletion s) with h | ⟨c, -, -, -, h⟩ <;> rw [h] <;> exact hs.of_eq rfl rfl rfl
  | placeWaiting => rcases placeWaiting_cases s with h | ⟨c, -, -, -, h⟩ <;> rw [h] <;> exact hs.of_eq rfl rfl rfl
  | policies u hr hu => rw [hu]; exact hs.of_eq rfl rfl rfl
  | serve h => exact ⟨fun _ => h, hs.2⟩
  | halt => exact ⟨nofun, hs.2⟩
  | adopt p h | unfail p h =>
    exact hs.go (.of_plane p (fun q hq => State.setPlane_plane_other s p _ q hq) (by simp [h]) (by simp [h]) rfl rfl)
  | detach p hb hr hp ho => exact hs.detach p hb hr ho
  | lrdy p level =>
    have hlevel := State.setPlane_plane s p { s.plane p with link := linkOf level }
    exact hs.go (.of_plane p (fun q hq => (hlevel q).trans (if_neg hq)) (fun hon => by
      rw [show (setLrdy p level (linkOf level) s).plane p = _ from (hlevel p).trans (if_pos rfl)]; exact hon)
      (by rw [show (setLrdy p level (linkOf level) s).plane p = _ from (hlevel p).trans (if_pos rfl)]) rfl rfl)
  | startJob j h => exact hs.go h.keepsServing
  | takeHead =>
    rcases takeHead_cases s with h | ⟨x, rest, -, -, h⟩ <;> rw [h]
    · exact hs
    rcases freeTag_cases x.tag { s with responses := rest, out := { s.out with response := some x } } with
      ⟨-, h⟩ | h | ⟨r, -, h⟩ <;> rw [h] <;> exact hs.of_eq rfl rfl rfl
  | cut =>
    obtain ⟨_, _, h⟩ := channelCut_shape { s with pins := { s.pins with hrstLow := true } }
    rw [h]
    exact hs.of_eq rfl rfl rfl
  | powerOn =>
    have hp := poweredOn_plane s
    refine ⟨nofun, iff_of_false Bool.false_ne_true fun ⟨p, h⟩ => ?_, fun p q h => ?_, nofun⟩ <;> rw [hp] at h <;> cases h
  | powerOnEnd =>
    have hp := sampleLinks_plane { s with pins := { s.pins with inReset := false } }
    exact hs.go ⟨fun p h => by rw [hp]; exact h, fun p => by rw [hp]; exact Iff.rfl, rfl, rfl, fun _ => .inl rfl⟩
  | _ => exact hs.of_eq rfl rfl rfl

/-- Settles O15: each move keeps the log, the table and the causes (`TablesKept`), and service with the pending PLANE_DETACH. -/
theorem stepKeepsTables : Obligations.StepKeepsTables := by
  refine ⟨fun s t ⟨hlog, hsuspects⟩ h => ?_, fun s t ⟨hbacked, hdetach, hsticky⟩ h => ?_⟩
  · have ht := step_keeps (TablesKept True False) Move.tablesKept (fun _ _ hs => hs.of_eq rfl rfl rfl) s t
      ⟨fun _ => (logSound_iff s).mp hlog, fun _ => hsuspects, nofun⟩ h
    exact ⟨(logSound_iff t).mpr (ht.log trivial), ht.suspects trivial⟩
  · have ht := step_keeps ServeKept Move.serveKept (fun _ _ hs => hs.of_eq rfl rfl rfl) s t ⟨hbacked, hdetach⟩ h
    have hk := step_keeps (TablesKept False True) Move.tablesKept (fun _ _ hs => hs.of_eq rfl rfl rfl) s t
      ⟨nofun, nofun, fun _ => hsticky⟩ h
    exact ⟨ht.1, ht.2, hk.sticky trivial⟩

end Sys2Proof.Machine
end

section
/-! PROOFS. A sound state through every step: plane records, links and regions, the frame in progress and the request assembly
buffer; and all of it together. -/

namespace Sys2Proof.Machine

/-! ## Plane records -/

/-- What `PlanesSound` says of one record. -/
structure PlaneRec.Sound (r : PlaneRec) : Prop where
  cause : r.cause.isSome = true ↔ r.state = .failed
  count : r.errorCount ≤ 255
  serving : r.state.inService = true → r.errorCount ≤ 254

theorem planesSound_iff (s : State) : PlanesSound s ↔ ∀ p, (s.plane p).Sound :=
  ⟨fun h p => let ⟨a, b, c⟩ := h p; ⟨a, b, c⟩, fun h p => ⟨(h p).cause, (h p).count, (h p).serving⟩⟩

/-- A plane that has not failed moves on with its count, or with none. -/
theorem PlaneRec.Sound.move {r : PlaneRec} (h : r.Sound) (hr : r.state ≠ .failed) (x : PlaneState) (n : Nat) (hx : x ≠ .failed)
    (hn : n ≤ 254) : PlaneRec.Sound { r with state := x, errorCount := n } :=
  ⟨iff_of_false (fun hc => hr (h.cause.mp hc)) hx, hn.trans (by decide), fun _ => hn⟩

theorem PlaneRec.Sound.leave {r : PlaneRec} (h : r.Sound) (hr : r.state ≠ .failed) : PlaneRec.Sound { r with state := .offline } :=
  ⟨iff_of_false (fun hc => hr (h.cause.mp hc)) (by simp), h.count, nofun⟩

theorem PlaneRec.sound_failed (r : PlaneRec) (c : FailCause) (h : r.errorCount ≤ 255) : (failedRecord r c).Sound :=
  ⟨iff_of_true rfl rfl, h, nofun⟩

theorem PlanesGo.planesSound {s t : State} (h : PlanesGo s t) (hs : PlanesSound s) : PlanesSound t := by
  rw [planesSound_iff] at *
  intro p
  rcases h.plane p with he | ⟨hp, -, he⟩ <;> rw [he]
  · exact hs p
  · exact (hs p).move (by simp [hp]) _ _ (by simp) (by decide)

theorem endJob_planesSound (j : Job) (o : JobOutcome) (s : State) (hs : PlanesSound s) : PlanesSound (endJob j o s) := by
  rw [planesSound_iff] at *
  intro p
  rw [endJob_plane]
  split
  · next h =>
    split
    · exact (hs p).move (by simp [h.2]) _ _ (by simp) (by decide)
    · exact (hs p).leave (by simp [h.2])
  · exact hs p

theorem Fails.planesSound {p : PlaneId} {c : FailCause} {s t : State} (h : Fails p c s t) (hp : (s.plane p).errorCount ≤ 255)
    (hs : ∀ q, q ≠ p → (s.plane q).Sound) : PlanesSound t := by
  rw [planesSound_iff]
  intro q
  by_cases hq : q = p
  · subst hq
    rw [h.failed]
    exact PlaneRec.sound_failed _ c hp
  · rcases h.other q hq with he | ⟨hsync, -, he⟩ <;> rw [he]
    · exact hs q hq
    · exact (hs q hq).move (by simp [hsync]) _ _ (by simp) (by decide)

theorem PlanesSound.setPlane {s : State} (hs : PlanesSound s) (p : PlaneId) (r : PlaneRec) (hr : r.Sound) : PlanesSound (s.setPlane p r) := by
  rw [planesSound_iff] at *
  intro q
  rw [State.setPlane_plane]
  split
  · exact hr
  · exact hs q

theorem failPlane_planesSound (p : PlaneId) (c : FailCause) (s : State) (hs : PlanesSound s) : PlanesSound (failPlane p c s) := by
  cases h : (s.plane p).state.inService with
  | false => rw [failPlane_out_of_service p c s h]; exact hs
  | true => exact (failPlane_fails p c s h).planesSound (hs p).2.1 fun q _ => (planesSound_iff s).mp hs q

/-- An error counted fails the plane before its count passes the highest limit (R9). -/
theorem countDataError_planesSound (p : PlaneId) (s : State) (h : (s.plane p).state.inService = true) (hpol : PoliciesInRange s)
    (hs : PlanesSound s) : PlanesSound (countDataError p s) := by
  have hcount := ((planesSound_iff s).mp hs p).serving h
  have hlimit := hpol.1.2
  unfold countDataError
  dsimp only
  split
  · refine (failPlane_fails p .errorLimit _ (by rw [State.setPlane_plane_same]; exact h)).planesSound ?_ fun q hq => ?_
    · rw [State.setPlane_plane_same]
      exact Nat.succ_le_succ hcount
    · rw [State.setPlane_plane_other _ _ _ _ hq]
      exact (planesSound_iff s).mp hs q
  · next hbelow =>
    refine hs.setPlane p _ ⟨((planesSound_iff s).mp hs p).cause, ?_, fun _ => ?_⟩ <;> dsimp only <;> omega

theorem PlanesSound.of_eq {s t : State} (hs : PlanesSound s) (h : t.planes = s.planes) : PlanesSound t := fun p => by
  simp only [State.plane, h]
  exact hs p

theorem Move.planesSound {s t : State} (h : Move s t) (hpol : PoliciesInRange s) (hs : PlanesSound s) : PlanesSound t := by
  cases h with
  | touch u h => exact (h.planesGo s _).planesSound hs
  | acts acts h => exact (settleActs_planesGo acts s).planesSound hs
  | fail p c => exact failPlane_planesSound p c s hs
  | countError p h => exact countDataError_planesSound p s h hpol hs
  | drain p =>
    rcases drainPlane_cases s p with h | ⟨hp, -, h⟩ <;> rw [h]
    · exact hs
    · exact hs.setPlane p _ (((planesSound_iff s).mp hs p).leave (by simp [hp]))
  | endAbort =>
    rcases endAbort_cases s with h | ⟨j, o, -, -, -, -, -, h⟩ <;> rw [h]
    · exact hs
    · exact endJob_planesSound j o s hs
  | complete =>
    rcases completeJob_cases s with h | ⟨j, -, -, -, -, h⟩ <;> rw [h]
    · exact hs
    · exact endJob_planesSound j .complete s hs
  | dropCompletion hf =>
    rcases placeWaiting_cases (Machine.dropCompletion s) with h | ⟨c, -, -, -, h⟩ <;> rw [h] <;> exact hs.of_eq rfl
  | placeWaiting => rcases placeWaiting_cases s with h | ⟨c, -, -, -, h⟩ <;> rw [h] <;> exact hs.of_eq rfl
  | policies u hr hu => rw [hu]; exact hs.of_eq rfl
  | adopt p h => exact hs.setPlane p _ (((planesSound_iff s).mp hs p).move (by simp [h]) _ _ (by simp) (by decide))
  | unfail p h => exact hs.setPlane p _ ⟨by simp, (hs p).2.1, nofun⟩
  | detach p hb hr hp ho =>
    have hold := (planesSound_iff s).mp hs p
    have hset := hs.setPlane p _ (hold.move (by simp [hp]) .detaching (s.plane p).errorCount (by simp) (hold.serving (by simp [hp, PlaneState.inService])))
    exact hset.of_eq rfl
  | lrdy p level => exact (hs.setPlane p { s.plane p with link := linkOf level } (hs p |> fun ⟨a, b, c⟩ => ⟨a, b, c⟩)).of_eq rfl
  | startJob j h =>
    rw [planesSound_iff] at *
    intro p
    rw [jobSet_plane]
    split
    · exact ⟨by simp, Nat.zero_le _, fun _ => Nat.zero_le _⟩
    · exact hs p
  | takeHead =>
    rcases takeHead_cases s with h | ⟨x, rest, -, -, h⟩ <;> rw [h]
    · exact hs
    rcases freeTag_cases x.tag { s with responses := rest, out := { s.out with response := some x } } with
      ⟨-, h⟩ | h | ⟨r, -, h⟩ <;> rw [h] <;> exact hs.of_eq rfl
  | cut =>
    obtain ⟨_, _, h⟩ := channelCut_shape { s with pins := { s.pins with hrstLow := true } }
    rw [h]
    exact hs.of_eq rfl
  | powerOn =>
    rw [planesSound_iff]
    intro p
    rw [poweredOn_plane]
    exact ⟨by simp, Nat.zero_le _, nofun⟩
  | powerOnEnd =>
    rw [planesSound_iff] at *
    intro p
    rw [sampleLinks_plane]
    exact ⟨(hs p).cause, (hs p).count, (hs p).serving⟩
  | _ => exact hs.of_eq rfl

/-! ## Links -/

/-- A plane's link and LRDY's level stay. -/
def LinksStay (s t : State) : Prop := t.pins.lrdy = s.pins.lrdy ∧ ∀ p, (t.plane p).link = (s.plane p).link

theorem LinksFollowPins.stay {s t : State} (hs : LinksFollowPins s) (h : LinksStay s t) : LinksFollowPins t := fun p => by
  rw [h.2, h.1]
  exact hs p

theorem LinksFollowPins.of_eq {s t : State} (hs : LinksFollowPins s) (hp : t.pins.lrdy = s.pins.lrdy) (h : t.planes = s.planes) :
    LinksFollowPins t := hs.stay ⟨hp, fun p => by simp only [State.plane, h]⟩

theorem LinksFollowPins.setPlane {s : State} (hs : LinksFollowPins s) (p : PlaneId) (r : PlaneRec) (h : r.link = (s.plane p).link) :
    LinksFollowPins (s.setPlane p r) := by
  refine hs.stay ⟨rfl, fun q => ?_⟩
  rw [State.setPlane_plane]
  split
  · next hq => rw [hq]; exact h
  · rfl

theorem PlanesGo.linksStay {s t : State} (h : PlanesGo s t) (hi : Inner s t) : LinksStay s t := by
  refine ⟨by rw [hi], fun p => ?_⟩
  rcases h.plane p with he | ⟨-, -, he⟩ <;> rw [he]

theorem endJob_linksStay (j : Job) (o : JobOutcome) (s : State) : LinksStay s (endJob j o s) := by
  refine ⟨by rw [inner_endJob j o s], fun p => ?_⟩
  rw [endJob_plane]
  split
  · split <;> rfl
  · rfl

theorem failPlane_linksStay (p : PlaneId) (c : FailCause) (s : State) : LinksStay s (failPlane p c s) := by
  cases h : (s.plane p).state.inService with
  | false => rw [failPlane_out_of_service p c s h]; exact ⟨rfl, fun _ => rfl⟩
  | true =>
    have hf := failPlane_fails p c s h
    refine ⟨by rw [hf.pins], fun q => ?_⟩
    by_cases hq : q = p
    · subst hq; rw [hf.failed]; rfl
    · rcases hf.other q hq with he | ⟨-, -, he⟩ <;> rw [he]

theorem Move.linksFollowPins {s t : State} (h : Move s t) (hs : LinksFollowPins s) : LinksFollowPins t := by
  cases h with
  | touch u h => exact hs.stay ((h.planesGo s _).linksStay (inner_touch h))
  | acts acts h => exact hs.stay ((settleActs_planesGo acts s).linksStay (inner_settleActs acts s))
  | fail p c => exact hs.stay (failPlane_linksStay p c s)
  | countError p h =>
    have hcounted := hs.setPlane p { s.plane p with errorCount := (s.plane p).errorCount + 1 } rfl
    unfold countDataError
    dsimp only
    split
    · exact hcounted.stay (failPlane_linksStay ..)
    · exact hcounted
  | drain p =>
    rcases drainPlane_cases s p with h | ⟨hp, -, h⟩ <;> rw [h]
    · exact hs
    · exact hs.setPlane p _ rfl
  | endAbort =>
    rcases endAbort_cases s with h | ⟨j, o, -, -, -, -, -, h⟩ <;> rw [h]
    · exact hs
    · exact hs.stay (endJob_linksStay j o s)
  | complete =>
    rcases completeJob_cases s with h | ⟨j, -, -, -, -, h⟩ <;> rw [h]
    · exact hs
    · exact hs.stay (endJob_linksStay j .complete s)
  | dropCompletion hf =>
    rcases placeWaiting_cases (Machine.dropCompletion s) with h | ⟨c, -, -, -, h⟩ <;> rw [h] <;> exact hs.of_eq rfl rfl
  | placeWaiting => rcases placeWaiting_cases s with h | ⟨c, -, -, -, h⟩ <;> rw [h] <;> exact hs.of_eq rfl rfl
  | policies u hr hu => rw [hu]; exact hs.of_eq rfl rfl
  | adopt p h | unfail p h => exact hs.setPlane p _ rfl
  | detach p hb hr hp ho => exact (hs.setPlane p { s.plane p with state := .detaching } rfl).of_eq rfl rfl
  | lrdy p level =>
    intro q
    have hq : (setLrdy p level (linkOf level) s).plane q = if q = p then { s.plane p with link := linkOf level } else s.plane q :=
      State.setPlane_plane s p _ q
    have hl : (setLrdy p level (linkOf level) s).pins.lrdy[q] = if q = p then level else s.pins.lrdy[q] := by
      simp only [setLrdy, Fin.getElem_fin, Vector.getElem_set]
      by_cases h : q = p
      · simp [h]
      · have hval : ¬p.val = q.val := fun e => h (Fin.ext e.symm)
        simp [h, hval]
    rw [hq, hl]
    split
    · rfl
    · exact hs q
  | startJob j h =>
    obtain ⟨planes, he⟩ := jobSet_shape j s
    refine hs.stay ⟨by rw [he], fun p => ?_⟩
    rw [jobSet_plane]
    split <;> rfl
  | takeHead =>
    rcases takeHead_cases s with h | ⟨x, rest, -, -, h⟩ <;> rw [h]
    · exact hs
    rcases freeTag_cases x.tag { s with responses := rest, out := { s.out with response := some x } } with
      ⟨-, h⟩ | h | ⟨r, -, h⟩ <;> rw [h] <;> exact hs.of_eq rfl rfl
  | cut =>
    obtain ⟨_, _, h⟩ := channelCut_shape { s with pins := { s.pins with hrstLow := true } }
    rw [h]
    exact hs.of_eq rfl rfl
  | powerOn =>
    intro p
    rw [poweredOn_plane]
    rfl
  | powerOnEnd =>
    intro p
    rw [sampleLinks_plane]
    rfl
  | _ => exact hs.of_eq rfl rfl

/-! ## Regions and the request assembly buffer -/

/-- The registers of the host channel's pins, assembly buffer and regions stay. -/
def RegistersKept (s : State) : Prop := RegionsInRange s ∧ AssemblySound s

theorem RegistersKept.of_eq {s t : State} (hs : RegistersKept s) (hr : t.regions = s.regions) (hp : t.pins = s.pins)
    (ha : t.requestAssembly = s.requestAssembly) : RegistersKept t := by
  unfold RegistersKept RegionsInRange AssemblySound requestReady
  rw [hr, hp, ha]
  exact hs

theorem RegistersKept.inner {s t : State} (hs : RegistersKept s) (h : Inner s t) : RegistersKept t :=
  hs.of_eq (by rw [h]) (by rw [h]) (by rw [h])

theorem RegistersKept.empty {s t : State} (hs : RegistersKept s) (hr : t.regions = s.regions) (ha : t.requestAssembly = []) :
    RegistersKept t := by
  refine ⟨by unfold RegionsInRange; rw [hr]; exact hs.1, ?_⟩
  unfold AssemblySound
  rw [ha]
  exact ⟨by simp, fun _ => rfl⟩

theorem RegistersKept.failPlane {s : State} (hs : RegistersKept s) (p : PlaneId) (c : FailCause) : RegistersKept (failPlane p c s) := by
  cases h : (s.plane p).state.inService with
  | false => rw [failPlane_out_of_service p c s h]; exact hs
  | true =>
    have hf := failPlane_fails p c s h
    exact hs.of_eq hf.regions hf.pins hf.requestAssembly

theorem Move.registersKept {s t : State} (h : Move s t) (hs : RegistersKept s) : RegistersKept t := by
  cases h with
  | touch u h => exact hs.inner (inner_touch h)
  | acts acts h => exact hs.inner (inner_settleActs acts s)
  | fail p c => exact hs.failPlane p c
  | countError p h =>
    have hcounted : RegistersKept (s.setPlane p { s.plane p with errorCount := (s.plane p).errorCount + 1 }) := hs.of_eq rfl rfl rfl
    unfold countDataError
    dsimp only
    split
    · exact hcounted.failPlane p _
    · exact hcounted
  | drain p => rcases drainPlane_cases s p with h | ⟨-, -, h⟩ <;> rw [h] <;> exact hs.of_eq rfl rfl rfl
  | endAbort => exact hs.inner (inner_endAbort s)
  | complete => exact hs.inner (inner_completeJob s)
  | dropCompletion hf =>
    rcases placeWaiting_cases (Machine.dropCompletion s) with h | ⟨c, -, -, -, h⟩ <;> rw [h] <;> exact hs.of_eq rfl rfl rfl
  | placeWaiting => rcases placeWaiting_cases s with h | ⟨c, -, -, -, h⟩ <;> rw [h] <;> exact hs.of_eq rfl rfl rfl
  | policies u hr hu => rw [hu]; exact hs.of_eq rfl rfl rfl
  | region i r h =>
    refine ⟨fun k => ?_, hs.2⟩
    have hk : (setRegion i r s).regions[k] = if k = i then r else s.regions[k] := by
      simp only [setRegion, Fin.getElem_fin, Vector.getElem_set]
      by_cases he : k = i
      · simp [he]
      · have hval : ¬i.val = k.val := fun e => he (Fin.ext e.symm)
        simp [he, hval]
    rw [hk]
    split
    · exact h
    · exact hs.1 k
  | lrdy p level => exact ⟨hs.1, hs.2⟩
  | startJob j h => obtain ⟨planes, he⟩ := jobSet_shape j s; rw [he]; exact hs.of_eq rfl rfl rfl
  | assembly l h =>
    refine ⟨hs.1, ?_⟩
    rcases h with rfl | ⟨hr, hl⟩
    · exact ⟨by simp, fun _ => rfl⟩
    · refine ⟨hl, fun hn => ?_⟩
      rw [show requestReady { s with requestAssembly := l } = requestReady s from rfl, hr] at hn
      cases hn
  | takeHead =>
    rcases takeHead_cases s with h | ⟨x, rest, -, -, h⟩ <;> rw [h]
    · exact hs
    rcases freeTag_cases x.tag { s with responses := rest, out := { s.out with response := some x } } with
      ⟨-, h⟩ | h | ⟨r, -, h⟩ <;> rw [h] <;> exact hs.of_eq rfl rfl rfl
  | cut =>
    obtain ⟨_, _, h⟩ := channelCut_shape { s with pins := { s.pins with hrstLow := true } }
    rw [h]
    exact hs.empty rfl rfl
  | hrstRising =>
    refine ⟨hs.1, hs.2.1, fun hn => hs.2.2 ?_⟩
    simp_all [requestReady]
  | powerOn => exact ⟨show RegionsInRange State.reset by decide, show 0 < 6 by decide, fun _ => rfl⟩
  | powerOnEnd =>
    refine ⟨hs.1, hs.2.1, fun hn => hs.2.2 ?_⟩
    simp_all [requestReady, sampleLinks]
  | _ => exact hs.of_eq rfl rfl rfl

/-! ## The frame in progress -/

theorem FramesSound.grow {s t : State} (hs : FramesSound s) (hp : t.pins.inReset = s.pins.inReset) (hm : t.mgmt = s.mgmt)
    (hc : CompletionsGrow s t) : FramesSound t := by
  obtain ⟨hreset, hassembly, hresult, hcompletion⟩ := hs
  unfold FramesSound
  rw [hp, hm]
  exact ⟨hreset, hassembly, hresult, fun b c hf => hc.head (hcompletion b c hf)⟩

theorem FramesSound.inner {s t : State} (hs : FramesSound s) (h : Inner s t) (hc : CompletionsGrow s t) : FramesSound t :=
  hs.grow (by rw [h]) (by rw [h]) hc

/-- A result posted while none is held touches no latch (R170, R172). -/
theorem FramesSound.posted {s t : State} (hs : FramesSound s) (r : Result) (b : Bool) (hp : t.pins.inReset = s.pins.inReset)
    (hm : t.mgmt = { s.mgmt with result := some r, busy := b }) (hc : CompletionsGrow s t) (hnone : s.mgmt.result = none) :
    FramesSound t := by
  obtain ⟨hreset, hassembly, hresult, hcompletion⟩ := hs
  unfold FramesSound
  rw [hp, hm]
  refine ⟨hreset, hassembly, fun b r hf => ?_, fun b c hf => hc.head (hcompletion b c hf)⟩
  have hlatched := hresult b r hf
  rw [hnone] at hlatched
  cases hlatched

theorem FramesSound.failPlane {s : State} (hs : FramesSound s) (hd : DetachTracked s) (p : PlaneId) (c : FailCause) :
    FramesSound (failPlane p c s) := by
  cases h : (s.plane p).state.inService with
  | false => rw [failPlane_out_of_service p c s h]; exact hs
  | true =>
    have hf := failPlane_fails p c s h
    have hpins : (Machine.failPlane p c s).pins.inReset = s.pins.inReset := by rw [hf.pins]
    have hm := hf.mgmt
    split at hm
    · next hp => exact hs.posted _ false hpins hm hf.completions (hd.2.2 (hd.1.mpr ⟨p, hp⟩))
    · exact hs.grow hpins hm hf.completions

theorem Move.framesSound {s t : State} (h : Move s t) (hd : DetachTracked s) (hs : FramesSound s) : FramesSound t := by
  cases h with
  | touch u h => exact hs.inner (inner_touch h) (h.completionsGrow s _)
  | acts acts h => exact hs.inner (inner_settleActs acts s) (settleActs_completionsGrow acts s)
  | fail p c => exact hs.failPlane hd p c
  | countError p h =>
    have hcounted : FramesSound (s.setPlane p { s.plane p with errorCount := (s.plane p).errorCount + 1 }) := hs.grow rfl rfl (.of_eq rfl)
    have hstate : ∀ q, ((s.setPlane p { s.plane p with errorCount := (s.plane p).errorCount + 1 }).plane q).state = (s.plane q).state := by
      intro q
      rw [State.setPlane_plane]
      split
      · next hq => rw [hq]
      · rfl
    unfold countDataError
    dsimp only
    split
    · refine hcounted.failPlane ?_ p _
      unfold DetachTracked
      simp only [hstate]
      exact hd
    · exact hcounted
  | drain p =>
    rcases drainPlane_cases s p with h | ⟨hp, -, h⟩ <;> rw [h]
    · exact hs
    · exact hs.posted _ false rfl rfl (.of_eq rfl) (hd.2.2 (hd.1.mpr ⟨p, hp⟩))
  | endAbort => exact hs.inner (inner_endAbort s) (endAbort_completionsGrow s)
  | complete => exact hs.inner (inner_completeJob s) (completeJob_completionsGrow s)
  | frame m hb hr hf => exact hf hs
  | post c l hb hf =>
    obtain ⟨hreset, hassembly, -, -⟩ := hs
    refine ⟨hreset, hassembly, fun b r h => ?_, fun b c h => ?_⟩ <;>
      rw [show (postResult _ l s).mgmt.frame = s.mgmt.frame from rfl, hf] at h <;> cases h
  | dropCompletion hf =>
    have hframe : (Machine.placeWaiting (Machine.dropCompletion s)).mgmt = s.mgmt ∧
        (Machine.placeWaiting (Machine.dropCompletion s)).pins = s.pins := by
      rcases placeWaiting_cases (Machine.dropCompletion s) with h | ⟨c, -, -, -, h⟩ <;> rw [h] <;> exact ⟨rfl, rfl⟩
    obtain ⟨hreset, hassembly, -, -⟩ := hs
    unfold FramesSound
    rw [hframe.1, hframe.2, hf] at *
    exact ⟨hreset, hassembly, nofun, nofun⟩
  | placeWaiting =>
    rcases placeWaiting_cases s with h | ⟨c, -, -, -, h⟩ <;> rw [h]
    · exact hs
    · exact hs.grow rfl rfl (List.prefix_append ..)
  | policies u hr hu => rw [hu]; exact hs.grow rfl rfl (.of_eq rfl)
  | detach p hb hr hp ho => exact hs
  | startJob j h => obtain ⟨planes, he⟩ := jobSet_shape j s; rw [he]; exact hs.grow rfl rfl (.of_eq rfl)
  | takeHead =>
    rcases takeHead_cases s with h | ⟨x, rest, -, -, h⟩ <;> rw [h]
    · exact hs
    rcases freeTag_cases x.tag { s with responses := rest, out := { s.out with response := some x } } with
      ⟨-, h⟩ | h | ⟨r, -, h⟩ <;> rw [h] <;> exact hs.grow rfl rfl (.of_eq rfl)
  | cut =>
    obtain ⟨_, _, h⟩ := channelCut_shape { s with pins := { s.pins with hrstLow := true } }
    rw [h]
    exact hs.grow rfl rfl (.of_eq rfl)
  | powerOn =>
    have hframe : ∀ f ∈ (poweredOn s).mgmt.frame, f = .ignored := by
      intro f hf
      obtain ⟨_, -, h⟩ := Option.map_eq_some_iff.mp hf
      exact h.symm
    refine ⟨fun _ => hframe, fun h => absurd rfl h, fun b r h => ?_, fun b c h => ?_⟩ <;> cases hframe _ h
  | powerOnEnd =>
    obtain ⟨-, hassembly, hresult, hcompletion⟩ := hs
    exact ⟨nofun, hassembly, hresult, hcompletion⟩
  | _ => exact hs.grow rfl rfl (.of_eq rfl)

/-! ## All of it -/

theorem Move.sound (s t : State) (h : Move s t) (hs : Sound s) : Sound t := by
  obtain ⟨hpolicies, hports⟩ := h.portsKept s t ⟨hs.policies, hs.ports⟩
  obtain ⟨hservice, hdetach⟩ := h.serveKept s t ⟨hs.service, hs.detach⟩
  obtain ⟨hregions, hassembly⟩ := h.registersKept ⟨hs.regions, hs.assembly⟩
  have htables := h.tablesKept (a := True) (b := True) s t
    ⟨fun _ => (logSound_iff s).mp hs.log, fun _ => hs.suspects, fun _ => hs.sticky⟩
  exact {
    policies := hpolicies, ports := hports, regions := hregions, assembly := hassembly, service := hservice, detach := hdetach
    planes := h.planesSound hs.policies hs.planes
    links := h.linksFollowPins hs.links
    frames := h.framesSound hs.detach hs.frames
    sticky := htables.sticky trivial
    log := (logSound_iff t).mpr (htables.log trivial)
    suspects := htables.suspects trivial
    responses := h.responses s t hs.responses
    locks := (locksSound_iff t).mpr (h.locksKept s t ((locksSound_iff s).mp hs.locks))
    sweep := (sweepSound_iff t).mpr (h.sweepKept s t ((sweepSound_iff s).mp hs.sweep)) }

theorem Sound.pending {s : State} (hs : Sound s) (l : List Instr) : Sound { s with pending := l } :=
  ⟨hs.policies, hs.regions, hs.planes, hs.links, hs.service, hs.detach, hs.frames, hs.sticky, hs.log, hs.suspects, hs.ports, hs.responses,
    hs.assembly, hs.locks, hs.sweep⟩

/-- Settles O10: each move keeps every part of `Sound`. -/
theorem stepKeepsSound : Obligations.StepKeepsSound := fun s t hs h =>
  step_keeps Sound Move.sound (fun _ l hs => hs.pending l) s t hs h

/-- Settles O9: the reset state's tables are empty and its registers in their ranges. -/
theorem resetSound : Obligations.ResetSound where
  policies := by decide
  regions := by decide
  planes := by decide
  links := by decide
  service := nofun
  detach := by decide
  frames := ⟨fun _ _ => nofun, fun h => absurd rfl h, nofun, nofun⟩
  sticky := by decide
  log := by decide
  suspects := by decide
  ports := (portsSound_iff _).mpr fun p => by
    rw [show State.reset.port p = resetPort by simp [State.port, State.reset]]; exact .of_empty rfl rfl
  responses := by
    have hfree : ∀ t, State.reset.tag t = .free := fun t => by simp [State.tag, State.reset]
    have hempty : State.reset.responses = [] := rfl
    simp [ResponsesMatchTags, hempty, hfree]
  assembly := by decide
  locks := by
    have hfree : ∀ t, (State.reset.position t).heldBack = none := fun t => by simp [State.position, State.reset]
    have hempty : State.reset.locks = [] := rfl
    simp [LocksSound, hempty, hfree]
  sweep := by decide

end Sys2Proof.Machine
end

section
/-! PROOFS. What an event does to the plane ports: queues grow at the tail with ops issued now, a port that takes no ops stays as it is,
and a failure flushes its own port alone. -/

namespace Sys2Proof.Machine

/-! ## One port -/

/-- What the acts of an event at instant `now` do to a port: ops join the queue's tail, and the generation stays (R134). -/
def Port.Goes (now : Nat) (q q' : Port) : Prop :=
  (∃ l, q'.queue = q.queue ++ l ∧ ∀ x ∈ l, x.issuedAt = now) ∧ q'.gen = q.gen

theorem Port.Goes.of_eq {now : Nat} {q q' : Port} (hq : q'.queue = q.queue) (hg : q'.gen = q.gen) : Port.Goes now q q' :=
  ⟨⟨[], by rw [hq, List.append_nil], fun _ h => absurd h List.not_mem_nil⟩, hg⟩

theorem Port.Goes.refl (now : Nat) (q : Port) : Port.Goes now q q := .of_eq rfl rfl

theorem Port.Goes.trans {now : Nat} {a b c : Port} (h : Port.Goes now a b) (k : Port.Goes now b c) : Port.Goes now a c := by
  obtain ⟨⟨l, hl, hn⟩, hg⟩ := h
  obtain ⟨⟨m, hm, hn'⟩, hg'⟩ := k
  refine ⟨⟨l ++ m, by rw [hm, hl, List.append_assoc], fun x hx => ?_⟩, hg'.trans hg⟩
  rcases List.mem_append.mp hx with hx | hx
  · exact hn x hx
  · exact hn' x hx

theorem Port.Goes.enlist (now : Nat) (op : Op) (q : Port) : Port.Goes now q (q.enlist op) := by
  unfold Port.enlist
  split <;> exact .of_eq rfl rfl

theorem Port.Goes.grantOne {share now : Nat} {q q' : Port} (h : q.grantOne share now = some q') : Port.Goes now q q' := by
  obtain ⟨-, op, n, -, he⟩ := grantOne_cases share now q q' h
  rw [he]
  exact ⟨⟨_, rfl, by simp⟩, rfl⟩

/-- Nothing is granted where both lists are empty (R147). -/
theorem grantOne_lists {share now : Nat} {q q' : Port} (h : q.grantOne share now = some q') : q.hostList ≠ [] ∨ q.sweepList ≠ [] := by
  obtain ⟨-, op, n, ⟨hh, -⟩ | ⟨hs, -⟩, -⟩ := grantOne_cases share now q q' h
  · exact .inl (by rw [hh]; exact List.cons_ne_nil _ _)
  · exact .inr (by rw [hs]; exact List.cons_ne_nil _ _)

/-! ## The ports through the acts of an event -/

/-- What the acts of an event do to the ports, beside time, policies, link fields and MISO. -/
structure PortsGo (s t : State) : Prop where
  now : t.now = s.now
  timeout : t.planeTimeout = s.planeTimeout
  miso : t.out.miso = s.out.miso
  takes : ∀ p, TakesOps t p ↔ TakesOps s p
  port : ∀ p, Port.Goes s.now (s.port p) (t.port p)
  still : ∀ p, ¬TakesOps s p → (s.port p).hostList = [] → (s.port p).sweepList = [] → t.port p = s.port p

theorem PortsGo.of_eq {s t : State} (hn : t.now = s.now) (ht : t.planeTimeout = s.planeTimeout) (hm : t.out.miso = s.out.miso)
    (hp : ∀ p, TakesOps t p ↔ TakesOps s p) (hq : t.ports = s.ports) : PortsGo s t := by
  have hport : ∀ p, t.port p = s.port p := fun p => by simp only [State.port, hq]
  exact ⟨hn, ht, hm, hp, fun p => by rw [hport]; exact .refl _ _, fun p _ _ _ => hport p⟩

theorem PortsGo.of_planes {s t : State} (hn : t.now = s.now) (ht : t.planeTimeout = s.planeTimeout) (hm : t.out.miso = s.out.miso)
    (hp : t.planes = s.planes) (hq : t.ports = s.ports) : PortsGo s t :=
  .of_eq hn ht hm (fun _ => ⟨fun h => h.of_planes hp.symm, fun h => h.of_planes hp⟩) hq

theorem PortsGo.refl (s : State) : PortsGo s s := .of_planes rfl rfl rfl rfl rfl

theorem PortsGo.trans {s t u : State} (h : PortsGo s t) (k : PortsGo t u) : PortsGo s u where
  now := k.now.trans h.now
  timeout := k.timeout.trans h.timeout
  miso := k.miso.trans h.miso
  takes p := (k.takes p).trans (h.takes p)
  port p := (h.port p).trans (h.now ▸ k.port p)
  still p hp hh hs := by
    have hst := h.still p hp hh hs
    rw [k.still p (fun ht => hp ((h.takes p).mp ht)) (by rw [hst]; exact hh) (by rw [hst]; exact hs), hst]

/-- The change of one port, of a plane that takes ops or whose port has a list that is not empty. -/
theorem PortsGo.setPort {s t : State} (p : PlaneId) (q : Port) (hn : t.now = s.now) (ht : t.planeTimeout = s.planeTimeout)
    (hm : t.out.miso = s.out.miso) (hp : t.planes = s.planes) (hq : t.ports = (s.setPort p q).ports) (hgo : Port.Goes s.now (s.port p) q)
    (hwhy : TakesOps s p ∨ (s.port p).hostList ≠ [] ∨ (s.port p).sweepList ≠ []) : PortsGo s t := by
  have hport : ∀ r, t.port r = if r = p then q else s.port r := fun r => by
    rw [← State.setPort_port]
    simp only [State.port, hq]
  refine ⟨hn, ht, hm, fun _ => ⟨fun h => h.of_planes hp.symm, fun h => h.of_planes hp⟩, fun r => ?_, fun r hr hh hs => ?_⟩
  · rw [hport]
    split
    · next h => rw [h]; exact hgo
    · exact .refl _ _
  · rw [hport, if_neg]
    rintro rfl
    rcases hwhy with h | h | h
    · exact hr h
    · exact h hh
    · exact h hs

theorem Touch.portsGo (s t : State) (h : Touch s t) : PortsGo s t := by
  cases h with
  | request t r k hk hr => rcases setRequest_cases t r s with ⟨k, -, he⟩ | ⟨-, he⟩ <;> rw [he] <;> exact .of_planes rfl rfl rfl rfl rfl
  | produce t st d => rcases produce_cases t st d s with ⟨r, -, he⟩ | ⟨-, he⟩ <;> rw [he] <;> exact .of_planes rfl rfl rfl rfl rfl
  | post b => rw [postRecord_frame]; exact .of_planes rfl rfl rfl rfl rfl
  | suspect e => rcases addSuspect_cases e s with ⟨l, -, he⟩ | ⟨-, he⟩ <;> rw [he] <;> exact .of_planes rfl rfl rfl rfl rfl
  | enlist p op h => exact .setPort p _ rfl rfl rfl rfl rfl (.enlist _ op _) (.inl h)
  | grant p u h =>
    obtain ⟨-, q, ops, hq, rfl⟩ := grantOp_cases p s _ h
    exact .setPort p q rfl rfl rfl rfl rfl (.grantOne hq) (.inr (grantOne_lists hq))
  | abort o => rcases enterAborting_cases o s with h | ⟨-, ⟨j, -, h⟩ | ⟨-, h⟩⟩ <;> rw [h] <;> exact .of_planes rfl rfl rfl rfl rfl
  | unsuspect _ | rotate _ | slot _ _ _ | count _ _ _ _ => exact .of_planes rfl rfl rfl rfl rfl

theorem completeJob_portsGo (s : State) : PortsGo s (completeJob s) := by
  have hgo := completeJob_planesGo s
  rcases completeJob_cases s with h | ⟨j, -, -, -, -, h⟩
  · rw [h]; exact .refl s
  · obtain ⟨planes, he⟩ := endJob_shape j .complete s
    refine .of_eq (by rw [h, he]) (by rw [h, he]) (by rw [h, he]) (fun p => ?_) (by rw [h, he])
    unfold TakesOps
    rcases hgo.plane p with hp | ⟨hs, -, hp⟩
    · rw [hp]
    · simp [hp, hs]

theorem settleActs_portsGo (acts : List Act) (s : State) : PortsGo s (settleActs acts s) := by
  refine settleActs_keeps (PortsGo s) (perform_keeps (PortsGo s) (fun _ _ h hs => hs.trans (h.portsGo _ _)) ?_ ?_ ?_ ?_
    fun _ hs => hs.trans (completeJob_portsGo _)) acts s (.refl s)
  · intro pos u hs; cases pos <;> exact hs.trans (.of_planes rfl rfl rfl rfl rfl)
  · intro pos kind line u hs; exact hs.trans (.of_planes rfl rfl rfl rfl rfl)
  · intro t u hs
    rcases placeHeldBack_cases t u with h | ⟨c, -, -, h⟩ <;> rw [h] <;> exact hs.trans (.of_planes rfl rfl rfl rfl rfl)
  · intro u hs
    rcases placeNext_cases u with h | ⟨j, k, -, -, -, -, -, h⟩ <;> rw [h] <;> exact hs.trans (.of_planes rfl rfl rfl rfl rfl)

theorem arbitrate_portsGo (p : PlaneId) (s : State) : PortsGo s (arbitrate p s) :=
  (touches_arbitrate p s).rel PortsGo.refl (fun _ _ _ => .trans) Touch.portsGo

/-! ## The end of an event -/

theorem endAbort_ports (s : State) : (endAbort s).ports = s.ports ∧ (endAbort s).now = s.now ∧
    (endAbort s).planeTimeout = s.planeTimeout ∧ (endAbort s).out = s.out := by
  rcases endAbort_cases s with h | ⟨j, o, -, -, -, -, -, h⟩
  · rw [h]; exact ⟨rfl, rfl, rfl, rfl⟩
  · obtain ⟨planes, he⟩ := endJob_shape j o s
    rw [h, he]; exact ⟨rfl, rfl, rfl, rfl⟩

/-- The end of an event writes no port, and no plane that is neither SYNCING nor DETACHING (R13, R107). -/
structure EndsEvent (s t : State) : Prop where
  ports : t.ports = s.ports
  now : t.now = s.now
  timeout : t.planeTimeout = s.planeTimeout
  out : t.out = s.out
  plane : ∀ p, (s.plane p).state ≠ .detaching → t.plane p = s.plane p ∨
    (s.plane p).state = .syncing ∧ (t.plane p = { s.plane p with state := .offline } ∨
      t.plane p = { s.plane p with state := .online, errorCount := 0 })
  detaching : ∀ p, (s.plane p).state = .detaching → t.plane p = s.plane p ∨
    (s.port p).isEmpty = true ∧ t.plane p = { s.plane p with state := .offline }

theorem EndsEvent.refl (s : State) : EndsEvent s s := ⟨rfl, rfl, rfl, rfl, fun _ _ => .inl rfl, fun _ _ => .inl rfl⟩

theorem EndsEvent.drain {s t : State} (h : EndsEvent s t) (p : PlaneId) : EndsEvent s (drainPlane t p) := by
  rcases drainPlane_cases t p with he | ⟨hd, hempty, he⟩
  · rw [he]; exact h
  · have hplane : ∀ q, (drainPlane t p).plane q = if q = p then { t.plane p with state := .offline } else t.plane q := fun q => by
      rw [he]; exact State.setPlane_plane t p _ q
    have hport : (s.port p).isEmpty = true := by simpa only [State.port, h.ports] using hempty
    refine ⟨by rw [he]; exact h.ports, by rw [he]; exact h.now, by rw [he]; exact h.timeout, by rw [he]; exact h.out, fun q hq => ?_,
      fun q hq => ?_⟩ <;> rw [hplane]
    · split
      · next hqp =>
        subst hqp
        rcases h.plane q hq with hs | ⟨-, hs | hs⟩ <;> rw [hs] at hd
        · exact absurd hd hq
        · cases hd
        · cases hd
      · exact h.plane q hq
    · split
      · next hqp =>
        subst hqp
        rcases h.detaching q hq with hs | ⟨-, hs⟩
        · exact .inr ⟨hport, by rw [hs]⟩
        · rw [hs] at hd; cases hd
      · exact h.detaching q hq

theorem EndsEvent.drains {s t : State} (h : EndsEvent s t) (l : List PlaneId) : EndsEvent s (l.foldl drainPlane t) := by
  induction l generalizing t with
  | nil => exact h
  | cons p l ih => exact ih (h.drain p)

theorem endOfEvent_ends (s : State) : EndsEvent s (endOfEvent s) := by
  refine EndsEvent.drains ?_ allPlanes
  obtain ⟨hports, hnow, htimeout, hout⟩ := endAbort_ports s
  refine ⟨hports, hnow, htimeout, hout, fun p _ => ?_, fun p hp => ?_⟩
  all_goals
    rcases endAbort_cases s with h | ⟨j, o, -, -, -, -, -, h⟩
    · exact .inl (by rw [h])
    rw [h, endJob_plane]
  · split
    · next hs => exact .inr ⟨hs.2, by split <;> simp⟩
    · exact .inl rfl
  · rw [if_neg (by simp [hp])]; exact .inl rfl

theorem EndsEvent.plane_eq {s t : State} (h : EndsEvent s t) (p : PlaneId) (hd : (s.plane p).state ≠ .detaching)
    (hs : (s.plane p).state ≠ .syncing) : t.plane p = s.plane p := (h.plane p hd).resolve_right fun hp => hs hp.1

theorem EndsEvent.port {s t : State} (h : EndsEvent s t) (p : PlaneId) : t.port p = s.port p := by simp only [State.port, h.ports]

/-! ## A failure -/

theorem failFirst_port (p : PlaneId) (c : FailCause) (s : State) (q : PlaneId) :
    (failFirst p c s).port q = if q = p then (s.port p).flushed else s.port q := by
  obtain ⟨sweep, h, -, -⟩ := failFirst_frame p c s
  rw [h]
  exact State.setPort_port _ p _ q

theorem TakesOps.inService {s : State} {p : PlaneId} (h : TakesOps s p) : (s.plane p).state.inService = true := by
  rcases h with h | h <;> rw [h] <;> rfl

theorem failFirst_takesOps (p : PlaneId) (c : FailCause) (s : State) (q : PlaneId) : TakesOps (failFirst p c s) q ↔ q ≠ p ∧ TakesOps s q := by
  unfold TakesOps
  rw [failFirst_plane]
  split
  · next h => simp [h, failedRecord]
  · next h => simp [h]

theorem failureSettled_portsGo (p : PlaneId) (c : FailCause) (s : State) : PortsGo (failFirst p c s) (failureSettled p c s) := by
  unfold failureSettled
  generalize (s.port p).allOps.map (fun op => Act.deliver op p .lost) = acts
  have hposted := Touch.portsGo (settleActs acts (failFirst p c s)) _ (.post (failureRecord p c))
  exact ((settleActs_portsGo acts _).trans hposted).trans (.of_planes rfl rfl rfl rfl rfl)

/-- What a failure leaves of the ports, and what stays beside them. -/
structure FailsPorts (p : PlaneId) (s t : State) : Prop where
  now : t.now = s.now
  timeout : t.planeTimeout = s.planeTimeout
  miso : t.out.miso = s.out.miso
  flushed : t.port p = (s.port p).flushed
  port : ∀ q, q ≠ p → Port.Goes s.now (s.port q) (t.port q)
  still : ∀ q, q ≠ p → ¬TakesOps s q → (s.port q).hostList = [] → (s.port q).sweepList = [] → t.port q = s.port q

theorem failPlane_failsPorts (p : PlaneId) (c : FailCause) (s : State) (h : (s.plane p).state.inService = true) :
    FailsPorts p s (failPlane p c s) := by
  have hgo := failureSettled_portsGo p c s
  have hport := failFirst_port p c s
  have htakes := failFirst_takesOps p c s
  obtain ⟨sweep, hfirst, -, -⟩ := failFirst_frame p c s
  have hnow : (failFirst p c s).now = s.now := by rw [hfirst]; rfl
  have htimeout : (failFirst p c s).planeTimeout = s.planeTimeout := by rw [hfirst]; rfl
  have hmiso : (failFirst p c s).out.miso = s.out.miso := by rw [hfirst]; rfl
  rw [failPlane_failed p c s h]
  generalize failureSettled p c s = u at hgo
  have hu : FailsPorts p s u := by
    refine ⟨hgo.now.trans hnow, hgo.timeout.trans htimeout, hgo.miso.trans hmiso, ?_, fun q hq => ?_, fun q hq ht hh hs => ?_⟩
    · have hp : (failFirst p c s).port p = (s.port p).flushed := by rw [hport, if_pos rfl]
      rw [hgo.still p (by simp [htakes]) (by rw [hp]; rfl) (by rw [hp]; rfl), hp]
    · have hgoq := hgo.port q
      rwa [hport, if_neg hq, hnow] at hgoq
    · have hq' : (failFirst p c s).port q = s.port q := by rw [hport, if_neg hq]
      rw [hgo.still q (fun h => ht ((htakes q).mp h).2) (by rw [hq']; exact hh) (by rw [hq']; exact hs), hq']
  obtain ⟨sticky, hhalt⟩ := haltService_frame ((s.plane p).state == .online && onlinePlanes (failFirst p c s) == 0) u
  rw [hhalt]
  obtain ⟨h1, h2, h3, h4, h5, h6⟩ := hu
  unfold failDetach
  split <;> exact ⟨h1, h2, h3, h4, h5, h6⟩

end Sys2Proof.Machine
end

section
/-! PROOFS. The wire against the commands: frames of the management port (R188 to R190), requests of the host channel (R184, R185) and
responses of a plane link (R186, R187). -/

namespace Sys2Proof

/-! ## COMMAND frames -/

/-- A byte of no command code is an unknown command (R170). -/
theorem decodeCommand_of_unlisted (code : Byte) (params : List Byte) (h : code ∉ commandCodes) :
    decodeCommand (code :: params) = .unknownCommand (.ended (code :: params)) := by
  have hne : ∀ c ∈ commandCodes, code.toNat ≠ c.toNat := fun c hc he => h (BitVec.eq_of_toNat_eq he ▸ hc)
  simp only [commandCodes, List.forall_mem_cons] at hne
  unfold decodeCommand
  split <;> simp_all

theorem decodePolicySet_of_undefined (selector : Byte) (value : List Byte) (h : 5 < selector.toNat) : decodePolicySet selector value = none := by
  unfold decodePolicySet
  split
  case h_7 => rfl
  all_goals omega

/-- The bytes after the type byte of an unknown command decode to it. -/
theorem decodeCommand_of_unknown (content : List Byte) (h : isUnknownContent content = true) :
    decodeCommand content = .unknownCommand (.ended content) := by
  match content with
  | [] => rfl
  | code :: params =>
    by_cases hc : code = policySetCode
    · subst hc
      match params with
      | [] => rfl
      | selector :: value =>
        have hs : 5 < selector.toNat := by simpa [isUnknownContent] using h
        show (decodePolicySet selector value).getD _ = _
        rw [decodePolicySet_of_undefined _ _ hs]
        rfl
    · refine decodeCommand_of_unlisted code params fun hm => ?_
      simp [isUnknownContent, hc, hm] at h

/-- Whatever the bytes after the type byte are, they are a command that sends them. -/
theorem decodeCommand_command (content : List Byte) :
    WellFormed (decodeCommand content) = true ∧ encodeFrame (decodeCommand content) = some (0x02 :: content) := by
  by_cases hu : isUnknownContent content = true
  · rw [decodeCommand_of_unknown content hu]
    exact ⟨hu, rfl⟩
  · match content with
    | [] => exact absurd rfl hu
    | code :: params =>
      have hm : code ∈ commandCodes := by
        by_contra hn
        have hp : code ≠ policySetCode := fun he => hn (he ▸ by decide)
        exact hu (by simp [isUnknownContent, hp, hn])
      by_cases hp : code = policySetCode
      · subst hp
        match params with
        | [] => exact absurd rfl hu
        | selector :: value =>
          have hs : selector.toNat ≤ 5 := by simpa [isUnknownContent] using hu
          have hcases : selector = 0 ∨ selector = 1 ∨ selector = 2 ∨ selector = 3 ∨ selector = 4 ∨ selector = 5 := by
            have := fun n (hn : n < 256) (h : selector.toNat = n) => (BitVec.eq_of_toNat_eq (x := selector) (y := BitVec.ofNat 8 n)
              (by rw [h, BitVec.toNat_ofNat, Nat.mod_eq_of_lt hn]))
            have h6 : selector.toNat = 0 ∨ selector.toNat = 1 ∨ selector.toNat = 2 ∨ selector.toNat = 3 ∨ selector.toNat = 4 ∨
                selector.toNat = 5 := by omega
            rcases h6 with h | h | h | h | h | h <;> simp [this _ (by decide) h]
          rcases hcases with rfl | rfl | rfl | rfl | rfl | rfl <;> exact ⟨rfl, rfl⟩
      · have hother : code ∈ commandCodes.erase policySetCode := (List.mem_erase_of_ne hp).mpr hm
        have hcodes : commandCodes.erase policySetCode = [0x01, 0x10, 0x11, 0x12, 0x13, 0x14, 0x15, 0x20, 0x21, 0x31, 0x40, 0x41, 0x42,
          0x50, 0x51, 0x52, 0x53, 0x58, 0x59, 0x5A, 0x60, 0x61] := by decide
        simp only [hcodes, List.mem_cons, List.not_mem_nil, or_false] at hother
        rcases hother with rfl | rfl | rfl | rfl | rfl | rfl | rfl | rfl | rfl | rfl | rfl | rfl | rfl | rfl | rfl | rfl | rfl | rfl | rfl |
          rfl | rfl | rfl <;> exact ⟨rfl, rfl⟩

/-! ## Frames -/

theorem plainFrame_length (t : Byte) (n : Nat) (h : 0 < n) : (plainFrame t n).length = n := by
  simp only [plainFrame, List.length_cons, List.length_replicate]
  omega

/-- A byte of no frame type opens a rejected frame (R167). -/
theorem decodeFrame_of_no_type (t : Byte) (rest : List Byte) (h : namesFrameType t = false) :
    decodeFrame (t :: rest) = some (.frameRejected t (rest.length + 1)) := by
  have hne : ∀ c ∈ [(0x01 : Byte), 0x02, 0x03, 0x04], t.toNat ≠ c.toNat := by
    intro c hc he
    rw [BitVec.eq_of_toNat_eq he] at h
    revert h hc
    clear he
    revert c
    decide
  simp only [List.forall_mem_cons] at hne
  unfold decodeFrame
  split <;> simp_all

theorem decodeFrame_plainFrame (t : Byte) (n : Nat) (h : 0 < n) (i : Nat → Instr)
    (hd : ∀ rest, decodeFrame (t :: rest) = some (i (rest.length + 1))) : decodeFrame (plainFrame t n) = some (i n) := by
  rw [plainFrame, hd, List.length_replicate, Nat.sub_add_cancel h]

/-- A frame that has ended brings what it encodes to. -/
theorem encodeFrame_ended (t : Byte) (bytes : FrameSoFar Nat) (f : List Byte) (h : endedFrame t bytes = some f) :
    ∃ n, bytes = .ended n ∧ 0 < n ∧ f = plainFrame t n := by
  match bytes with
  | .stillOpen _ => cases h
  | .ended n =>
    simp only [endedFrame] at h
    split at h
    · cases h
    · next hn => cases h; exact ⟨n, rfl, Nat.pos_of_ne_zero hn, rfl⟩

/-- Settles O5, by the rows that are frames. -/
theorem frameRoundTrip : Obligations.FrameRoundTrip := by
  intro i f hw h
  cases i with
  | statusFrame bytes =>
    obtain ⟨n, rfl, hn, rfl⟩ := encodeFrame_ended _ _ _ h
    exact decodeFrame_plainFrame _ n hn (fun n => .statusFrame (.ended n)) fun _ => rfl
  | resultFrame bytes =>
    obtain ⟨n, rfl, hn, rfl⟩ := encodeFrame_ended _ _ _ h
    exact decodeFrame_plainFrame _ n hn (fun n => .resultFrame (.ended n)) fun _ => rfl
  | completionFrame bytes =>
    obtain ⟨n, rfl, hn, rfl⟩ := encodeFrame_ended _ _ _ h
    exact decodeFrame_plainFrame _ n hn (fun n => .completionFrame (.ended n)) fun _ => rfl
  | frameRejected t n =>
    cases h
    simp only [WellFormed, Bool.and_eq_true, decide_eq_true_eq, Bool.not_eq_true'] at hw
    exact decodeFrame_plainFrame _ n hw.1 (.frameRejected t) fun rest => decodeFrame_of_no_type t rest hw.2
  | unknownCommand content =>
    match content with
    | .stillOpen _ => cases h
    | .ended content =>
      cases h
      show some (decodeCommand content) = _
      rw [decodeCommand_of_unknown content (by simpa [WellFormed, FrameSoFar.isOpen, FrameSoFar.brought] using hw)]
  | _ => cases h <;> rfl

/-- Settles O7: a frame of a type is that type's row, a COMMAND frame by its bytes, any other a rejected one. -/
theorem decodedFramesAreCommands : Obligations.DecodedFramesAreCommands := by
  intro f hf
  match f with
  | [] => exact absurd rfl hf
  | t :: rest =>
    have hlength : ∀ t, (plainFrame t (rest.length + 1)).length = (t :: rest).length := fun t => plainFrame_length t _ (Nat.succ_pos _)
    cases ht : namesFrameType t with
    | false =>
      refine ⟨_, _, decodeFrame_of_no_type t rest ht, ?_, rfl, hlength t⟩
      simp [WellFormed, ht]
    | true =>
      have hcases : t = 0x01 ∨ t = 0x02 ∨ t = 0x03 ∨ t = 0x04 := by simpa [namesFrameType, or_assoc] using ht
      rcases hcases with rfl | rfl | rfl | rfl
      · exact ⟨_, _, rfl, rfl, rfl, hlength _⟩
      · exact ⟨_, _, rfl, (decodeCommand_command rest).1, (decodeCommand_command rest).2, rfl⟩
      · exact ⟨_, _, rfl, rfl, rfl, hlength _⟩
      · exact ⟨_, _, rfl, rfl, rfl, hlength _⟩

/-! ## Transfers -/

theorem getLsbD_headerTransfer (b0 b1 b2 : Byte) (field : LineWord) (i : Nat) : (headerTransfer b0 b1 b2 field).getLsbD i =
    if i < 8 then b0.getLsbD i else if i < 16 then b1.getLsbD (i - 8) else if i < 24 then b2.getLsbD (i - 16) else
    if i < 32 then false else field.getLsbD (i - 32) := by
  have happend : ∀ {n m : Nat} (x : BitVec n) (y : BitVec m) (k : Nat),
      BitVec.getLsbD (x ++ y) k = if k < m then y.getLsbD k else x.getLsbD (k - m) := fun x y k => BitVec.getLsbD_append
  unfold headerTransfer
  refine (happend _ b0 i).trans ?_
  rw [happend _ b1, happend _ b2, happend _ (0 : BitVec 8), happend (0 : BitVec 64) field]
  simp only [Nat.sub_sub, Nat.reduceAdd, BitVec.ofNat_eq_ofNat, BitVec.getLsbD_zero]
  have h16 : i - 8 < 8 ↔ i < 16 ∨ i < 8 := by omega
  have h24 : i - 16 < 8 ↔ i < 24 := by omega
  have h32 : i - 24 < 8 ↔ i < 32 := by omega
  have hfield : (if i - 32 < 32 then field.getLsbD (i - 32) else false) = field.getLsbD (i - 32) := by
    split
    · rfl
    · next h => exact (BitVec.getLsbD_of_ge field _ (Nat.not_lt.mp h)).symm
  rw [hfield]
  by_cases h8 : i < 8
  · rw [if_pos h8, if_pos h8]
  · simp only [h8, h16, h24, h32, or_false, if_false]

@[simp] theorem transferByte_header_zero (b0 b1 b2 : Byte) (field : LineWord) : transferByte (headerTransfer b0 b1 b2 field) 0 = b0 := by
  refine BitVec.eq_of_getLsbD_eq fun i hi => ?_
  simp only [transferByte, BitVec.getLsbD_extractLsb', getLsbD_headerTransfer, hi, Nat.mul_zero, Nat.zero_add, if_true, decide_true,
    Bool.true_and]

@[simp] theorem transferByte_header_two (b0 b1 b2 : Byte) (field : LineWord) : transferByte (headerTransfer b0 b1 b2 field) 2 = b2 := by
  refine BitVec.eq_of_getLsbD_eq fun i hi => ?_
  have h8 : ¬16 + i < 8 := by omega
  have h16 : ¬16 + i < 16 := by omega
  have h24 : 16 + i < 24 := by omega
  simp [transferByte, getLsbD_headerTransfer, hi, h8, h16, h24]

/-- The second byte of a header, from its low bits. -/
theorem extract_header_one (b0 b1 b2 : Byte) (field : LineWord) (k w : Nat) (h : k + w ≤ 8) :
    (headerTransfer b0 b1 b2 field).extractLsb' (8 + k) w = b1.extractLsb' k w := by
  refine BitVec.eq_of_getLsbD_eq fun i hi => ?_
  have h8 : ¬8 + k + i < 8 := by omega
  have h16 : 8 + k + i < 16 := by omega
  have hpos : 8 + k + i - 8 = k + i := by omega
  simp only [BitVec.getLsbD_extractLsb', getLsbD_headerTransfer, h8, h16, hpos, if_false, if_true]

@[simp] theorem extract_header_field (b0 b1 b2 : Byte) (field : LineWord) : (headerTransfer b0 b1 b2 field).extractLsb' 32 32 = field := by
  refine BitVec.eq_of_getLsbD_eq fun i hi => ?_
  have h8 : ¬32 + i < 8 := by omega
  have h16 : ¬32 + i < 16 := by omega
  have h24 : ¬32 + i < 24 := by omega
  simp [getLsbD_headerTransfer, hi, h8, h16, h24]

@[simp] theorem headerTag_header (b0 b2 : Byte) (tag : Tag) (field : LineWord) : headerTag (headerTransfer b0 (tagByte tag) b2 field) = tag := by
  have hbits : (tagByte tag).extractLsb' 0 5 = BitVec.ofFin tag := by
    revert tag
    decide
  rw [headerTag, show (8 : Nat) = 8 + 0 from rfl, extract_header_one _ _ _ _ 0 5 (by decide), hbits]

@[simp] theorem headerSlot_header (b0 b2 : Byte) (slot : BitVec 4) (gen : BitVec 3) (field : LineWord) :
    (headerTransfer b0 (slotByte slot gen) b2 field).extractLsb' 8 4 = slot := by
  have hbits : (slotByte slot gen).extractLsb' 0 4 = slot := by
    revert slot gen
    decide
  rw [show (8 : Nat) = 8 + 0 from rfl, extract_header_one _ _ _ _ 0 4 (by decide), hbits]

@[simp] theorem headerGen_header (b0 b2 : Byte) (slot : BitVec 4) (gen : BitVec 3) (field : LineWord) :
    (headerTransfer b0 (slotByte slot gen) b2 field).extractLsb' 12 3 = gen := by
  have hbits : (slotByte slot gen).extractLsb' 4 3 = gen := by
    revert slot gen
    decide
  rw [show (12 : Nat) = 8 + 4 from rfl, extract_header_one _ _ _ _ 4 3 (by decide), hbits]

@[simp] theorem extract_maskTransfer (m : ByteMask) : (maskTransfer m).extractLsb' 0 64 = m := by
  refine BitVec.eq_of_getLsbD_eq fun i hi => ?_
  have hmask : (maskTransfer m).getLsbD i = m.getLsbD i :=
    (BitVec.getLsbD_append (x := (0 : BitVec 64)) (y := m)).trans (if_pos hi)
  simp only [BitVec.getLsbD_extractLsb', hi, Nat.zero_add, hmask, decide_true, Bool.true_and]

@[simp] theorem lineOfTransfers_transfersOfLine (d : LineData) :
    lineOfTransfers (d.extractLsb' 0 128) (d.extractLsb' 128 128) (d.extractLsb' 256 128) (d.extractLsb' 384 128) = d := by
  have h2 := BitVec.extractLsb'_append_extractLsb'_eq_extractLsb' (x := d) (start₁ := 256) (start₂ := 384) (len₁ := 128) (len₂ := 128) rfl
  have h1 := BitVec.extractLsb'_append_extractLsb'_eq_extractLsb' (x := d) (start₁ := 128) (start₂ := 256) (len₁ := 128)
    (len₂ := 128 + 128) rfl
  have h0 := BitVec.extractLsb'_append_extractLsb'_eq_extractLsb' (x := d) (start₁ := 0) (start₂ := 128) (len₁ := 128)
    (len₂ := 128 + 128 + 128) rfl
  calc lineOfTransfers (d.extractLsb' 0 128) (d.extractLsb' 128 128) (d.extractLsb' 256 128) (d.extractLsb' 384 128)
      = d.extractLsb' 0 (128 + 128 + 128 + 128) := by rw [← h0, ← h1, ← h2]; rfl
    _ = d := BitVec.extractLsb'_eq_self

theorem codes_of_no_kind (kind : Byte) (h : namesKind kind = false) : kind ≠ Config.readCode ∧ kind ≠ Config.writeCode := by
  simpa [namesKind] using h

/-- Settles O6: the header's fields and the data transfers come back. -/
theorem messageRoundTrip : Obligations.MessageRoundTrip := by
  refine ⟨fun i f more hw h => ?_, fun p slot gen status more => ⟨fun data hd => ?_, ?_, fun kind hk => ?_⟩⟩
  · cases i with
    | read tag line => cases h; simp [decodeRequest]
    | write tag line mask data =>
      match data with
      | .partly _ _ => cases h
      | .whole d =>
        cases h
        simp [decodeRequest, writeTransfers, transfersOfLine, Config.writeCode, Config.readCode]
    | unknownKindDiscard kind tag =>
      obtain ⟨hr, hwr⟩ := codes_of_no_kind kind (by simpa [WellFormed] using hw)
      cases h
      simp [decodeRequest, hr, hwr]
    | _ => cases h
  · refine ⟨_, rfl, ?_⟩
    by_cases hs : status = 0x00
    · subst hs
      simp [decodeResponse, transfersOfLine]
    · obtain rfl := hd.resolve_left hs
      simp only [decodeResponse, transferByte_header_zero, transferByte_header_two, headerSlot_header, headerGen_header, if_true,
        hs, if_false, List.cons_append, List.nil_append]
  · exact ⟨_, rfl, by simp [decodeResponse, Config.writeCode, Config.readCode]⟩
  · obtain ⟨hr, hwr⟩ := codes_of_no_kind kind hk
    exact ⟨_, rfl, by simp [decodeResponse, hr, hwr]⟩

/-- Settles O8: each word's bytes are read off. -/
theorem wireWords : Obligations.WireWords := by
  refine ⟨rfl, rfl, rfl, rfl, rfl, rfl, rfl, rfl, rfl, rfl⟩

end Sys2Proof
end

section
/-! PROOFS. Frames of the management port (R166 to R173, R175): every row that is a frame is one taken frame, and every COMMAND frame
one checked command; what the frames latch and what their ends do. -/

namespace Sys2Proof.Machine

/-! ## What leaves the frame in progress -/

/-- A command's part leaves the frame in progress as it is. -/
def LeavesFrame (body : State → State) : Prop := ∀ u, (body u).mgmt.frame = u.mgmt.frame

theorem Inner.mgmt_eq {s t : State} (h : Inner s t) : t.mgmt = s.mgmt := by rw [h]

theorem leavesFrame_post (c : ResultCode) (l : State → List Byte) (f : State → State) (hf : LeavesFrame f) :
    LeavesFrame fun u => postResult c (l u) (f u) := hf

theorem leavesFrame_refuse (c : ResultCode) : LeavesFrame (refuse c) := fun _ => rfl

theorem leavesFrame_id : LeavesFrame id := fun _ => rfl

theorem leavesFrame_ite {c : State → Prop} [∀ u, Decidable (c u)] {f g : State → State} (hf : LeavesFrame f) (hg : LeavesFrame g) :
    LeavesFrame fun u => if c u then f u else g u := fun u => by
  dsimp only
  split
  · exact hf u
  · exact hg u

theorem drainPlane_frame (s : State) (p : PlaneId) : (drainPlane s p).mgmt.frame = s.mgmt.frame := by
  rcases drainPlane_cases s p with h | ⟨-, -, h⟩ <;> rw [h]; rfl

theorem endOfEvent_frame (s : State) : (endOfEvent s).mgmt.frame = s.mgmt.frame := by
  have hfold : ∀ (l : List PlaneId) (u : State), (l.foldl drainPlane u).mgmt.frame = u.mgmt.frame := by
    intro l
    induction l with
    | nil => exact fun _ => rfl
    | cons p l ih => exact fun u => (ih _).trans (drainPlane_frame u p)
  unfold endOfEvent
  rw [hfold, (inner_endAbort s).mgmt_eq]

theorem failPlane_frame (p : PlaneId) (c : FailCause) (s : State) : (failPlane p c s).mgmt.frame = s.mgmt.frame := by
  cases h : (s.plane p).state.inService with
  | false => rw [failPlane_out_of_service p c s h]
  | true =>
    rw [(failPlane_fails p c s h).mgmt]
    split <;> rfl

theorem expire_frame (p : PlaneId) (s : State) : (expire p s).mgmt.frame = s.mgmt.frame := by
  unfold expire
  split
  · rfl
  · rw [endOfEvent_frame, failPlane_frame]

theorem leavesFrame_setService (on : Option Bool) : LeavesFrame (setService on) := by
  match on with
  | none | some false => exact fun _ => rfl
  | some true => exact leavesFrame_ite (leavesFrame_refuse _) fun _ => rfl

theorem leavesFrame_setGeometry (code : Nat) : LeavesFrame (setGeometry code) :=
  leavesFrame_ite (leavesFrame_refuse _) (leavesFrame_ite (leavesFrame_refuse _) fun _ => rfl)

theorem leavesFrame_adoptPlane (p : PlaneId) : LeavesFrame (adoptPlane p) :=
  leavesFrame_ite (leavesFrame_refuse _) (leavesFrame_ite (leavesFrame_refuse _) fun _ => rfl)

theorem leavesFrame_detachPlane (p : PlaneId) : LeavesFrame (detachPlane p) := by
  intro u
  unfold detachPlane
  split
  · rfl
  · split
    · rfl
    · rw [endOfEvent_frame]

theorem leavesFrame_releasePlane (p : PlaneId) : LeavesFrame (releasePlane p) :=
  leavesFrame_ite (leavesFrame_refuse _) fun _ => rfl

theorem leavesFrame_plane (x : Option PlaneId) (body : PlaneId → State → State) (h : ∀ p, LeavesFrame (body p)) :
    LeavesFrame (match x with | some p => body p | none => refuse .badParam) := by
  cases x with
  | none => exact leavesFrame_refuse _
  | some p => exact h p

theorem leavesFrame_setEntry (index : Nat) (valid : Byte) (base limit : Nat) (a : Attrs) :
    LeavesFrame (setEntry index valid base limit a) := by
  intro u
  unfold setEntry
  split
  · split <;> rfl
  · split <;> rfl

theorem leavesFrame_regionSetBody (params : List Byte) : LeavesFrame (regionSetBody params) := by
  intro u
  unfold regionSetBody
  split
  · split
    · exact leavesFrame_setEntry _ _ _ _ _ u
    · rfl
  · rfl

theorem leavesFrame_getEntry (index : Nat) : LeavesFrame (getEntry index) := by
  intro u
  unfold getEntry
  split
  · rfl
  · split <;> rfl

theorem leavesFrame_storeValue (low high : Nat) (store : Nat → State → State) (v : Nat) (h : LeavesFrame (store v)) :
    LeavesFrame (storeValue low high store v) := leavesFrame_ite (c := fun _ => low ≤ v ∧ v ≤ high) h (leavesFrame_refuse _)

theorem leavesFrame_storeTimeout (v : Nat) : LeavesFrame (storeTimeout v) := by
  have hone : ∀ u p, (expireOverdue u p).mgmt.frame = u.mgmt.frame := by
    intro u p
    unfold expireOverdue
    split
    · exact expire_frame p u
    · rfl
  have hfold : ∀ (l : List PlaneId) (u : State), (l.foldl expireOverdue u).mgmt.frame = u.mgmt.frame := by
    intro l
    induction l with
    | nil => exact fun _ => rfl
    | cons p l ih => exact fun u => (ih _).trans (hone u p)
  refine leavesFrame_ite (c := fun _ => 2 ≤ v ∧ v ≤ 1023) (fun u => ?_) (leavesFrame_refuse _)
  unfold expireLowered
  split
  · exact hfold _ _
  · rfl

theorem leavesFrame_value (value : List Byte) (body : Nat → State → State) (h : ∀ v, LeavesFrame (body v)) :
    LeavesFrame (match value with | [b1, b0] => body (number2 b1 b0) | _ => id) := by
  split
  · exact h _
  · exact leavesFrame_id

theorem leavesFrame_getPolicy (selector : Byte) : LeavesFrame (getPolicy selector) := by
  intro u
  unfold getPolicy
  split <;> rfl

theorem leavesFrame_sweepStartBody (x : SweepParams) : LeavesFrame (sweepStartBody x) := by
  intro u
  unfold sweepStartBody
  split
  · rfl
  · split
    · rfl
    · split
      · rfl
      · next k _ _ _ =>
        have hset : (jobSet (newJob u k x) u).mgmt = u.mgmt := by
          obtain ⟨planes, h⟩ := jobSet_shape (newJob u k x) u
          rw [h]
        show (settleActs [.sweepPlace] (postResult .done [(newJob u k x).id] (jobSet (newJob u k x) u))).mgmt.frame = _
        rw [(inner_settleActs ..).mgmt_eq]
        show (jobSet (newJob u k x) u).mgmt.frame = _
        rw [hset]

theorem leavesFrame_abortBody : LeavesFrame abortBody := by
  intro u
  unfold abortBody
  split
  · rw [endOfEvent_frame]
    show (enterAborting .abortedCommand u).mgmt.frame = _
    rw [(inner_enterAborting ..).mgmt_eq]
  all_goals rfl

theorem leavesFrame_dropRecord (seq : Nat) : LeavesFrame (dropRecord seq) := by
  intro u
  unfold dropRecord
  split
  · rfl
  · split <;> rfl

theorem leavesFrame_readSuspect (index : Nat) : LeavesFrame (readSuspect index) := by
  intro u
  unfold readSuspect
  split
  · rfl
  · split <;> rfl

theorem leavesFrame_clearSuspect (line : Nat) : LeavesFrame (clearSuspect line) :=
  leavesFrame_ite (c := fun _ => Config.lastLine < line) (leavesFrame_refuse _) (leavesFrame_ite (fun _ => rfl) fun _ => rfl)

/-! ## COMMAND frames as checked commands -/

/-- The row is a COMMAND frame with these bytes after its type byte: one checked command, which is answered BAD_LENGTH where the code
names a command of another length. -/
def CommandRow (i : Instr) (content : List Byte) : Prop :=
  ∃ right body, (∀ s, exec i s = .next (takeCommand (content.length + 1) right body s)) ∧ LeavesFrame body ∧
    ∀ code params n, content = code :: params → commandLength code = some n → params.length ≠ n →
      right = false ∨ right = true ∧ body = refuse .badLength

theorem commandRow_of_run {i : Instr} {code : Byte} {params : List Byte} (len : Nat) (body : State → State)
    (hexec : ∀ s, exec i s = runCommand len params body s) (hlen : commandLength code = some len) (hb : LeavesFrame body) :
    CommandRow i (code :: params) := by
  refine ⟨params.length == len, body, hexec, hb, fun c ps n hc hn hne => .inl ?_⟩
  cases hc
  rw [hlen] at hn
  cases hn
  simpa using hne

theorem commandRow_of_policySet {i : Instr} {selector : Byte} {value : List Byte} (body : Nat → State → State)
    (hexec : ∀ s, exec i s = runPolicySet value body s) (hb : ∀ v, LeavesFrame (body v)) :
    CommandRow i (0x30 :: selector :: value) := by
  refine ⟨value.length == 2, _, hexec, leavesFrame_value value body hb, fun c ps n hc hn hne => .inl ?_⟩
  cases hc
  cases hn
  simp only [List.length_cons, ne_eq, Nat.reduceEqDiff] at hne
  simpa using hne

/-- An undefined POLICY_SET of another length than its own is answered BAD_LENGTH; no other unknown command has a length. -/
theorem unknownResult_badLength (code : Byte) (params : List Byte) (n : Nat) (hu : isUnknownContent (code :: params) = true)
    (hn : commandLength code = some n) (hne : params.length ≠ n) : unknownResult (code :: params) = .badLength := by
  have hp : code = policySetCode := by
    by_contra hp
    have hm : code ∉ commandCodes := by simpa [isUnknownContent, hp] using hu
    have hne : ∀ c ∈ commandCodes, code.toNat ≠ c.toNat := fun c hc he => hm (BitVec.eq_of_toNat_eq he ▸ hc)
    simp only [commandCodes, List.forall_mem_cons] at hne
    unfold commandLength at hn
    split at hn <;> simp_all
  subst hp
  have h3 : n = 3 := (Option.some.inj hn).symm
  simp [unknownResult, h3 ▸ hne]

theorem commandRow_unknown (content : List Byte) (h : isUnknownContent content = true) :
    CommandRow (.unknownCommand (.ended content)) content := by
  refine ⟨true, refuse (unknownResult content), fun s => if_pos h, leavesFrame_refuse _, fun code params n hc hn hne => .inr ⟨rfl, ?_⟩⟩
  subst hc
  rw [unknownResult_badLength code params n h hn hne]

/-- Every row that is a COMMAND frame is a checked command. -/
theorem commandRow_of_encode (i : Instr) (content : List Byte) (hw : WellFormed i = true) (h : encodeFrame i = some (0x02 :: content)) :
    CommandRow i content := by
  cases i with
  | deviceQuery params => cases h; exact commandRow_of_run 0 _ (fun _ => rfl) rfl fun _ => rfl
  | serviceSet params => cases h; exact commandRow_of_run 1 _ (fun _ => rfl) rfl (leavesFrame_setService _)
  | geometrySet params => cases h; exact commandRow_of_run 1 _ (fun _ => rfl) rfl (leavesFrame_setGeometry _)
  | planeStatus params => cases h; exact commandRow_of_run 1 _ (fun _ => rfl) rfl (leavesFrame_plane _ _ fun _ _ => rfl)
  | planeAdopt params => cases h; exact commandRow_of_run 1 _ (fun _ => rfl) rfl (leavesFrame_plane _ _ leavesFrame_adoptPlane)
  | planeDetach params => cases h; exact commandRow_of_run 1 _ (fun _ => rfl) rfl (leavesFrame_plane _ _ leavesFrame_detachPlane)
  | planeRelease params => cases h; exact commandRow_of_run 1 _ (fun _ => rfl) rfl (leavesFrame_plane _ _ leavesFrame_releasePlane)
  | regionSet params => cases h; exact commandRow_of_run 16 _ (fun _ => rfl) rfl (leavesFrame_regionSetBody _)
  | regionGet params => cases h; exact commandRow_of_run 1 _ (fun _ => rfl) rfl (leavesFrame_getEntry _)
  | policySetErrorLimit value =>
    cases h; exact commandRow_of_policySet _ (fun _ => rfl) fun v => leavesFrame_storeValue _ _ _ v fun _ => rfl
  | policySetPlaneTimeout value => cases h; exact commandRow_of_policySet _ (fun _ => rfl) leavesFrame_storeTimeout
  | policySetSweepShare value =>
    cases h; exact commandRow_of_policySet _ (fun _ => rfl) fun v => leavesFrame_storeValue _ _ _ v fun _ => rfl
  | policySetLogMode value =>
    cases h; exact commandRow_of_policySet _ (fun _ => rfl) fun v => leavesFrame_storeValue _ _ _ v fun _ => rfl
  | policySetLogThreshold value =>
    cases h; exact commandRow_of_policySet _ (fun _ => rfl) fun v => leavesFrame_storeValue _ _ _ v fun _ => rfl
  | policySetAlertMask value => 
    cases h
    exact commandRow_of_policySet (fun v s => postResult .done [] { s with alertMask := BitVec.ofNat 7 v }) (fun _ => rfl) fun _ _ => rfl
  | policyGet params => cases h; exact commandRow_of_run 1 _ (fun _ => rfl) rfl (leavesFrame_getPolicy _)
  | sweepStart params =>
    cases h
    refine commandRow_of_run 12 _ (fun _ => rfl) rfl ?_
    split
    · exact leavesFrame_sweepStartBody _
    · exact leavesFrame_id
  | sweepAbort params => cases h; exact commandRow_of_run 0 _ (fun _ => rfl) rfl leavesFrame_abortBody
  | sweepStatus params => cases h; exact commandRow_of_run 0 _ (fun _ => rfl) rfl fun _ => rfl
  | logStatus params => cases h; exact commandRow_of_run 0 _ (fun _ => rfl) rfl fun _ => rfl
  | logPeek params =>
    cases h
    refine commandRow_of_run 0 _ (fun _ => rfl) rfl fun u => ?_
    split <;> rfl
  | logDrop params =>
    cases h
    refine commandRow_of_run 2 _ (fun _ => rfl) rfl ?_
    split
    · exact leavesFrame_dropRecord _
    · exact leavesFrame_id
  | logClear params => cases h; exact commandRow_of_run 0 _ (fun _ => rfl) rfl fun _ => rfl
  | suspectRead params => cases h; exact commandRow_of_run 1 _ (fun _ => rfl) rfl (leavesFrame_readSuspect _)
  | suspectClear params =>
    cases h
    refine commandRow_of_run 4 _ (fun _ => rfl) rfl ?_
    split
    · exact leavesFrame_clearSuspect _
    · exact leavesFrame_id
  | suspectClearAll params => cases h; exact commandRow_of_run 0 _ (fun _ => rfl) rfl fun _ => rfl
  | alertQuery params => cases h; exact commandRow_of_run 0 _ (fun _ => rfl) rfl fun _ => rfl
  | alertAck params => cases h; exact commandRow_of_run 1 _ (fun _ => rfl) rfl fun _ => rfl
  | unknownCommand bytes =>
    match bytes with
    | .stillOpen _ => cases h
    | .ended bytes =>
      cases h
      exact commandRow_unknown content (by simpa [WellFormed, FrameSoFar.isOpen, FrameSoFar.brought] using hw)
  | statusFrame bytes | resultFrame bytes | completionFrame bytes =>
    obtain ⟨n, -, -, hf⟩ := encodeFrame_ended _ _ _ h
    cases hf
  | frameRejected t n =>
    have ht : t = 0x02 := by
      have hcons : plainFrame t n = 0x02 :: content := Option.some.inj h
      exact (List.cons.inj hcons).1
    subst ht
    simp [WellFormed, namesFrameType] at hw
  | _ => cases h

/-- Settles O17: each COMMAND frame is a checked command (`commandRow_of_encode`). -/
theorem commandChecks : Obligations.CommandChecks := by
  refine ⟨fun i rest s hw h hf hbusy => ?_, fun content s hf => ?_, fun s hs => ⟨fun i code params n hw h hn hne => ?_, ?_,
    fun code params hn => ?_, fun selector b1 b0 h5 => ?_⟩⟩
  · obtain ⟨right, body, hexec, -, -⟩ := commandRow_of_encode i rest hw h
    rw [hexec, takeCommand_discards _ _ _ _ hf (Nat.succ_ne_zero _) hbusy]
  · show Host.Outcome.next (assemble content (takeFrame (content.length + 1) true (silentFrame id) s)) = _
    rw [takeFrame_open _ _ _ hf]
    rfl
  · obtain ⟨right, body, hexec, -, hlen⟩ := commandRow_of_encode i _ hw h
    rw [hexec, takeCommand_ready _ _ _ _ hs (Nat.succ_ne_zero _)]
    rcases hlen code params n rfl hn hne with hr | ⟨hr, hb⟩
    · rw [hr]; rfl
    · rw [hr, hb]; rfl
  · show Host.Outcome.next (takeCommand 1 true (refuse .badLength) s) = _
    rw [takeCommand_ready _ _ _ _ hs (by decide)]
    rfl
  · have hnot : code ∉ commandCodes := fun hm => by
      revert hn
      revert code
      decide
    have hp : code ≠ policySetCode := fun he => hnot (he ▸ by decide)
    have hu : isUnknownContent (code :: params) = true := by simp [isUnknownContent, hp, hnot]
    have hr : unknownResult (code :: params) = .unknownCommand := by simp [unknownResult, hp]
    simp only [exec, execUnknownCommand, hu, if_true, hr]
    rw [takeCommand_ready _ _ _ _ hs (Nat.succ_ne_zero _)]
    rfl
  · have hu : isUnknownContent [0x30, selector, b1, b0] = true := by simpa [isUnknownContent, policySetCode] using h5
    simp only [exec, execUnknownCommand, hu, if_true]
    rw [takeCommand_ready _ _ _ _ hs (Nat.succ_ne_zero _)]
    rfl

/-! ## Ended frames -/

/-- The row is a frame that has ended: one taken frame, whose type's effect leaves the frame in progress. -/
def EndedRow (i : Instr) : Prop :=
  ∃ n type, (∀ s, exec i s = .next (takeFrame n false type s)) ∧ ∀ l, LeavesFrame (type.effect l)

theorem endedRow_status (n : Nat) : EndedRow (.statusFrame (.ended n)) := ⟨n, statusType, fun _ => rfl, fun _ _ => rfl⟩

theorem endedRow_result (n : Nat) : EndedRow (.resultFrame (.ended n)) := by
  refine ⟨n, resultType n, fun _ => rfl, fun l u => ?_⟩
  dsimp only [resultType]
  split
  · split <;> rfl
  · rfl

theorem endedRow_completion (n : Nat) : EndedRow (.completionFrame (.ended n)) := by
  refine ⟨n, completionType n, fun _ => rfl, fun l u => ?_⟩
  dsimp only [completionType]
  split
  · split
    · rcases placeWaiting_cases (dropCompletion u) with h | ⟨c, -, -, -, h⟩ <;> rw [h] <;> rfl
    · rfl
  · rfl

theorem CommandRow.ended {i : Instr} {content : List Byte} (h : CommandRow i content) : EndedRow i := by
  obtain ⟨right, body, hexec, hb, -⟩ := h
  refine ⟨content.length + 1, _, hexec, fun l u => ?_⟩
  dsimp only [silentFrame]
  split
  · rfl
  · split
    · exact hb u
    · rfl

theorem endedRow_rejected (t : Byte) (n : Nat) (h : namesFrameType t = false) : EndedRow (.frameRejected t n) :=
  ⟨n, _, fun s => if_neg (by simp [h]), fun _ _ => rfl⟩

/-- Every row with bytes of an ended frame is one. -/
theorem endedRow_of_encode (i : Instr) (f : List Byte) (hw : WellFormed i = true) (h : encodeFrame i = some f) : EndedRow i := by
  have hround := frameRoundTrip i f hw h
  match f with
  | [] => cases hround
  | t :: rest =>
    cases ht : namesFrameType t with
    | false =>
      rw [decodeFrame_of_no_type t rest ht] at hround
      cases hround
      exact endedRow_rejected t _ ht
    | true =>
      have hcases : t = 0x01 ∨ t = 0x02 ∨ t = 0x03 ∨ t = 0x04 := by simpa [namesFrameType, or_assoc] using ht
      rcases hcases with rfl | rfl | rfl | rfl
      · cases hround; exact endedRow_status _
      · exact (commandRow_of_encode i rest hw h).ended
      · cases hround; exact endedRow_result _
      · cases hround; exact endedRow_completion _

/-- No frame is in progress after a frame's end. -/
theorem EndedRow.closed {i : Instr} (h : EndedRow i) (s : State) : ∃ t, exec i s = .next t ∧ t.mgmt.frame = none := by
  obtain ⟨n, type, hexec, heffect⟩ := h
  refine ⟨_, hexec s, ?_⟩
  unfold takeFrame
  split
  · rfl
  · dsimp only
    split
    · next h => cases h
    · split
      · rfl
      · rw [heffect]; rfl

/-- The rows of frames that are still open. -/
def openRows (n : Nat) (content : List Byte) : List Instr :=
  [.statusFrame (.stillOpen n), .resultFrame (.stillOpen n), .completionFrame (.stillOpen n), .unknownCommand (.stillOpen content)]

/-- A frame still open is one taken frame; a COMMAND frame's bytes are assembled too. -/
theorem exec_open (n : Nat) (content : List Byte) (i : Instr) (h : i ∈ openRows n content) :
    ∃ n type x, ∀ s, exec i s = .next (assemble x (takeFrame n true type s)) ∨ exec i s = .next (takeFrame n true type s) := by
  simp only [openRows, List.mem_cons, List.not_mem_nil, or_false] at h
  rcases h with rfl | rfl | rfl | rfl
  · exact ⟨n, statusType, [], fun _ => .inr rfl⟩
  · exact ⟨n, resultType n, [], fun _ => .inr rfl⟩
  · exact ⟨n, completionType n, [], fun _ => .inr rfl⟩
  · exact ⟨content.length + 1, silentFrame id, content, fun _ => .inl rfl⟩

theorem misoDriven_assemble (x : List Byte) (s : State) : misoDriven (assemble x s) = misoDriven s := by
  unfold assemble
  split <;> rfl

theorem misoDriven_takeFrame_open (n : Nat) (type : FrameType) (s : State) :
    misoDriven (takeFrame n true type s) = !s.pins.inReset := by
  unfold takeFrame
  split <;> rfl

theorem misoDriven_open (n : Nat) (content : List Byte) (i : Instr) (h : i ∈ openRows n content) (s : State) :
    ∃ t, exec i s = .next t ∧ (misoDriven t = true ↔ s.pins.inReset = false) := by
  obtain ⟨m, type, x, hexec⟩ := exec_open n content i h
  rcases hexec s with he | he
  · exact ⟨_, he, by rw [misoDriven_assemble, misoDriven_takeFrame_open, Bool.not_eq_true']⟩
  · exact ⟨_, he, by rw [misoDriven_takeFrame_open, Bool.not_eq_true']⟩

/-- An ignored frame that is still open changes nothing but that it is in progress. -/
theorem exec_open_ignored (n : Nat) (content : List Byte) (i : Instr) (h : i ∈ openRows n content) (s : State)
    (hs : s.pins.inReset = true ∨ s.mgmt.frame = some .ignored) :
    exec i s = .next { s with out := {}, mgmt := { s.mgmt with frame := some .ignored } } := by
  obtain ⟨m, type, x, hexec⟩ := exec_open n content i h
  have hframe : takeFrame m true type s = s.quiet.setFrame (some .ignored) := takeFrame_ignored m true type s hs
  rcases hexec s with he | he <;> rw [he, hframe] <;> rfl

/-- Settles O18: ended frames (`endedRow_of_encode`) and open ones (`exec_open`), ignored or taken. -/
theorem framesIgnoredOrRejected : Obligations.FramesIgnoredOrRejected := by
  refine ⟨fun s n content => ⟨fun i h => misoDriven_open n content i h s, fun i f hw h => ?_⟩,
    fun s hs => ⟨fun i f hw h => ?_, fun n content i h => exec_open_ignored n content i h s hs⟩,
    fun s hs => ⟨?_, fun t n ht hn => ?_⟩⟩
  · have hended : EndedRow i := by
      rcases h with h | rfl
      · exact endedRow_of_encode i f hw h
      · exact endedRow_status 0
    obtain ⟨t, he, hframe⟩ := hended.closed s
    exact ⟨t, he, by simp [misoDriven, csLow, hframe]⟩
  · obtain ⟨n, type, hexec, -⟩ := endedRow_of_encode i f hw h
    rw [hexec, takeFrame_ignored _ _ _ _ hs]
    rfl
  · show Host.Outcome.next (takeFrame 0 false statusType s) = _
    unfold takeFrame
    rw [startedFrame_taken s hs]
    rfl
  · simp only [exec, execFrameRejected, ht, Bool.false_eq_true, if_false]
    rw [takeFrame_ended _ _ _ hs (Nat.pos_iff_ne_zero.mp hn)]
    rfl

/-! ## STATUS, RESULT and COMPLETION frames -/

theorem exec_statusFrame_ended (n : Nat) (s : State) (hs : FrameTaken s) (hn : 0 < n) (b : Byte)
    (hb : statusType.latch s (latchNow s) = .status b) :
    exec (.statusFrame (.ended n)) s = .next { framed n [b] s with
      mgmt := { s.mgmt with rejected := false, frame := none, assembly := [] } } := by
  show Host.Outcome.next (takeFrame n false statusType s) = _
  rw [takeFrame_ended _ _ _ hs (Nat.pos_iff_ne_zero.mp hn), hb]
  rfl

theorem exec_resultFrame_ended (n : Nat) (s : State) (hs : FrameTaken s) (hn : 0 < n) (r : Option Result)
    (hr : (resultType n).latch s (latchNow s) = .result r) :
    exec (.resultFrame (.ended n)) s = .next ((resultType n).effect (.result r) (framed n (resultContent r) s)) := by
  show Host.Outcome.next (takeFrame n false (resultType n) s) = _
  rw [takeFrame_ended _ _ _ hs (Nat.pos_iff_ne_zero.mp hn), hr]
  rfl

theorem exec_completionFrame_ended (n : Nat) (s : State) (hs : FrameTaken s) (hn : 0 < n) (c : Option CompletionRec)
    (hc : (completionType n).latch s (latchNow s) = .completion c) :
    exec (.completionFrame (.ended n)) s = .next ((completionType n).effect (.completion c) (framed n (completionContent c) s)) := by
  show Host.Outcome.next (takeFrame n false (completionType n) s) = _
  rw [takeFrame_ended _ _ _ hs (Nat.pos_iff_ne_zero.mp hn), hc]
  rfl

/-- One MISO byte is the first one. -/
theorem framed_one (content : List Byte) (s : State) : framed 1 content s = framed 1 [] s := by simp [framed, padTo]

/-- A frame still open is its start with what its type byte latches. -/
theorem takeFrame_opening (n : Nat) (type : FrameType) (s : State) (hs : FrameTaken s) :
    takeFrame n true type s = opening (if n = 0 then latchNow s else type.latch s (latchNow s)) s := takeFrame_open n type s hs

/-- Settles O19, by the frame's type and by what it has latched. -/
theorem statusAndResultFrames : Obligations.StatusAndResultFrames := by
  intro n s hn hs
  have hpos : n ≠ 0 := Nat.pos_iff_ne_zero.mp hn
  refine ⟨congrArg _ (takeFrame_opening 0 statusType s hs), fun hnow => ⟨?_, ?_⟩, fun b hb => ?_, fun latched hl => ?_⟩
  · refine congrArg _ ((takeFrame_opening n statusType s hs).trans ?_)
    rw [if_neg hpos, hnow]
    rfl
  · refine congrArg _ ((takeFrame_opening n (resultType n) s hs).trans ?_)
    rw [if_neg hpos, hnow]
    rfl
  · refine exec_statusFrame_ended n s hs hn b ?_
    rcases hb with hb | ⟨hb, rfl⟩ <;> rw [hb] <;> rfl
  · have hended := exec_resultFrame_ended n s hs hn latched (by rcases hl with hl | ⟨hl, rfl⟩ <;> rw [hl] <;> rfl)
    refine ⟨?_, ?_⟩
    · rintro rfl
      exact hended
    · rintro r rfl
      refine ⟨?_, fun h2 => ?_⟩
      · rintro rfl
        rw [hended, framed_one]
        rfl
      · rw [hended]
        show Host.Outcome.next (if 2 ≤ n then _ else _) = _
        rw [if_pos h2]
        rfl

/-- Settles O20, by what the frame has latched and by the engine's state. -/
theorem completionFrames : Obligations.CompletionFrames := by
  intro n s latched hn hs
  have hpos : n ≠ 0 := Nat.pos_iff_ne_zero.mp hn
  refine ⟨fun hnow => ?_, fun hl => ?_⟩
  · refine congrArg _ ((takeFrame_opening n (completionType n) s hs).trans ?_)
    rw [if_neg hpos, hnow]
    rfl
  have hended := exec_completionFrame_ended n s hs hn latched (by rcases hl with hl | ⟨hl, rfl⟩ <;> rw [hl] <;> rfl)
  refine ⟨?_, ?_⟩
  · rintro rfl
    exact hended
  · rintro c rest rfl hq content
    have hcontent : completionContent (some c) = content := by simp [completionContent, completionBytes, content]
    rw [hcontent] at hended
    have hremoved : 2 ≤ n → exec (.completionFrame (.ended n)) s = .next (placeWaiting
        { framed n content s with sweep := { s.sweep with completions := rest } }) := by
      intro h2
      rw [hended]
      show Host.Outcome.next (if 2 ≤ n then _ else _) = _
      rw [if_pos h2]
      simp only [dropCompletion, framed, hq, List.tail_cons]
    refine ⟨?_, fun h2 hne => ?_, fun w h2 he hw hroom => ?_⟩
    · rintro rfl
      rw [hended, framed_one]
      rfl
    · rw [hremoved h2]
      rcases placeWaiting_cases { framed n content s with sweep := { s.sweep with completions := rest } } with h | ⟨w, he, -⟩
      · rw [h]
      · exact absurd he hne
    · rw [hremoved h2]
      unfold placeWaiting
      simp only [he, hw]
      rw [if_pos (show rest.length < Config.completionPlaces from hroom)]

end Sys2Proof.Machine
end

section
/-! PROOFS. The step and the rows that are one operation each: resets, link edges, ISSUE, the ends of jobs and drains, and the grants of
one lock entry. -/

namespace Sys2Proof.Machine

/-! ## The step -/

/-- Settles O1: the front of the queue is what `step` looks at. -/
theorem stepRunsFront : Obligations.StepRunsFront := fun s c rest h => by
  unfold step
  rw [h]

/-- The lowest-numbered overdue plane is the one found. -/
theorem find_overdue (s : State) (p : PlaneId) (hp : overdue s p = true) (h : ∀ q : PlaneId, q < p → overdue s q = false) :
    allPlanes.find? (overdue s) = some p := by
  rcases plane_cases p with rfl | rfl | rfl | rfl
  · simp [allPlanes, hp]
  · simp [allPlanes, hp, h 0 (by decide)]
  · simp [allPlanes, hp, h 0 (by decide), h 1 (by decide)]
  · simp [allPlanes, hp, h 0 (by decide), h 1 (by decide), h 2 (by decide)]

/-- Settles O3: `passTime` on a queue with nothing due, and on one with an overdue plane. -/
theorem idleStep : Obligations.IdleStep := by
  intro s hs
  have hstep : step s = .next (passTime s.quiet) := by
    unfold step
    rw [hs]
  refine ⟨fun h => ?_, fun p hp h => ?_⟩ <;> rw [hstep]
  · have hnone : allPlanes.find? (overdue s.quiet) = none := List.find?_eq_none.mpr fun p _ => by
      rw [show overdue s.quiet p = overdue s p from rfl, h p]; exact Bool.false_ne_true
    unfold passTime
    rw [hnone]
    rfl
  · have hdue : overdue s.quiet p = true := hp
    unfold passTime
    rw [find_overdue s.quiet p hp h]
    show _ = Host.Outcome.next (expireInTurn p s.quiet)
    rw [expireInTurn, if_pos hdue]

/-- Settles O4, by the rows: only the four open ones refuse a term. -/
theorem wellFormedRuns : Obligations.WellFormedRuns := by
  refine ⟨fun i s hw => ?_, fun kind tag s h => if_pos h, fun p slot gen kind status s h => if_pos h, fun t n s h => if_pos h,
    fun content s h => if_neg (by simp [h])⟩
  cases i with
  | unknownKindDiscard kind tag => exact ⟨_, if_neg (by simpa [WellFormed] using hw)⟩
  | unknownKindResponse p slot gen kind status => exact ⟨_, if_neg (by simpa [WellFormed] using hw)⟩
  | frameRejected t n =>
    simp only [WellFormed, Bool.and_eq_true, Bool.not_eq_true'] at hw
    exact ⟨_, if_neg (by simp [hw.2])⟩
  | unknownCommand content =>
    match content with
    | .stillOpen bytes => exact ⟨_, rfl⟩
    | .ended bytes => exact ⟨_, if_pos (by simpa [WellFormed, FrameSoFar.isOpen, FrameSoFar.brought] using hw)⟩
  | write tag line mask data => cases data <;> exact ⟨_, rfl⟩
  | hostChannelReset =>
    simp only [exec, execHostChannelReset]
    split <;> exact ⟨_, rfl⟩
  | _ => exact ⟨_, rfl⟩

/-! ## Resets -/

theorem linkOf_eq (b : Bool) : linkOf b = if b then .up else .down := rfl

/-- Settles O45, field by field. -/
theorem powerOnResetValues : Obligations.PowerOnResetValues := by
  intro s
  refine ⟨poweredOn s, rfl, fun p => ⟨poweredOn_plane s p, poweredOn_port s p⟩, rfl, rfl, rfl, rfl, rfl, rfl, rfl, rfl, fun u => ?_, rfl, rfl,
    rfl, fun i => ?_, rfl, rfl, rfl, fun k => ?_, rfl, rfl, rfl, rfl, rfl, rfl, rfl, ?_, ?_, rfl, rfl, rfl⟩
  · simp [poweredOn, sampleLinks, State.tag, State.position, State.reset]
  · simp [poweredOn, sampleLinks, State.reset, resetRegion]
  · simp [poweredOn, sampleLinks, State.reset, State.slot, resetSweep]
  · show alertLow State.reset = false
    decide
  · simp [misoDriven, poweredOn, sampleLinks]

/-- Settles O46, edge by edge. -/
theorem resetEdges : Obligations.ResetEdges := by
  intro s
  refine ⟨fun h => ?_, fun h => ⟨sampleLinks { s.quiet with pins := { s.pins with inReset := false } }, ?_, fun p => sampleLinks_plane _ p, ?_,
    rfl⟩, rfl, fun h => if_pos h⟩
  · simp only [exec, execPowerOnResetEnd, h, Bool.false_eq_true, if_false, State.quiet]
  · simp only [exec, execPowerOnResetEnd, h, if_true, State.quiet]
  · simp [misoDriven_iff, sampleLinks, State.quiet]

/-! ## Link edges and responses without effect -/

theorem NothingDue.endOfEvent {s : State} (h : NothingDue s) : endOfEvent s = s := endOfEvent_eq s h.1 h.2

/-- Where no plane of a state changes its state and no port its ops, the same ends are due. -/
theorem NothingDue.congr {s t : State} (h : NothingDue s) (hw : t.sweep = s.sweep) (hp : ∀ p, (t.plane p).state = (s.plane p).state)
    (hq : t.ports = s.ports) : NothingDue t := by
  have hport : ∀ p, t.port p = s.port p := fun p => by simp only [State.port, hq]
  have htargets : ∀ j, targetsDrained t j = targetsDrained s j := fun j => by
    simp only [targetsDrained, syncingTargets, planesIn, hp, hport]
  have hslots : noSlotInFlight t = noSlotInFlight s := by
    simp only [noSlotInFlight, slotsInFlight, State.slot, hw]
  unfold NothingDue
  simp only [hp, hport, htargets, hslots, hw]
  exact h

/-- Settles O47, by the row. -/
theorem linkEventsWithoutEffect : Obligations.LinkEventsWithoutEffect := by
  intro p slot gen status kind data s levelled
  refine ⟨rfl, fun h hdue => ?_, fun h => ?_, fun h => ?_⟩
  · have hstate : ∀ q, ((setLrdy p false .down s.quiet).plane q).state = (s.plane q).state := by
      intro q
      refine (congrArg PlaneRec.state (State.setPlane_plane s p { s.plane p with link := .down } q)).trans ?_
      split
      · next hq => rw [hq]
      · rfl
    have hdue' : NothingDue (setLrdy p false .down s.quiet) := hdue.congr rfl hstate rfl
    show Host.Outcome.next (endOfEvent (failPlane p .linkLost (setLrdy p false .down s.quiet))) = _
    rw [failPlane_out_of_service _ _ _ (by rw [hstate]; exact h), hdue'.endOfEvent]
    rfl
  · have hset : setAside s.quiet p gen = true := by
      rcases h with h | h
      · simp only [setAside, Bool.or_eq_true, Bool.not_eq_true']
        exact .inl h
      · simp only [setAside, Bool.or_eq_true, bne_iff_ne]
        exact .inr h
    refine ⟨congrArg Host.Outcome.next (takeResponse_setAside _ _ _ _ _ _ hset), congrArg Host.Outcome.next (takeResponse_setAside _ _ _ _ _ _ hset), fun hk => ?_⟩
    simp only [exec, execUnknownKindResponse, hk, Bool.false_eq_true, if_false]
    exact congrArg Host.Outcome.next (takeResponse_setAside _ _ _ _ _ _ hset)
  · have hempty : ∀ u : State, (u.port p).queue = [] → overdue u p = false := fun u hu => by
      rw [Bool.eq_false_iff, ne_eq, overdue_iff]
      rintro ⟨-, q, qs, hq, -⟩
      rw [hu] at hq
      cases hq
    have hfirst : firstBefore s.quiet p = none := List.find?_eq_none.mpr fun q _ => by
      have hdue : dueAt s.quiet p = none := by
        unfold dueAt
        rw [show (s.quiet.port p).queue = [] from h]
        split <;> rfl
      simp [expiresBefore, hdue]
    show Host.Outcome.next (expireInTurn p s.quiet) = _
    rw [expireInTurn, hempty s.quiet h, if_neg Bool.false_ne_true]
    have hbefore : expireBefore 3 p s.quiet = s.quiet := by
      unfold expireBefore
      rw [hfirst]
    rw [hbefore, expire_empty s.quiet p h]
    rfl

/-! ## ISSUE -/

/-- A link that is DOWN, a full queue and empty lists grant nothing (R147). -/
theorem grantOp_eq_none (p : PlaneId) (s : State)
    (h : (s.plane p).link = .down ∨ 16 ≤ (s.port p).queue.length ∨ (s.port p).hostList = [] ∧ (s.port p).sweepList = []) :
    grantOp p s = none := by
  unfold grantOp
  split
  · next hup =>
    have hnone : (s.port p).grantOne s.sweepShare s.now = none := by
      unfold Port.grantOne
      split
      · next hroom =>
        rcases h with h | h | ⟨hh, hs⟩
        · rw [h] at hup; cases hup
        · exact absurd hroom (Nat.not_lt.mpr h)
        · have hc : (s.port p).choice s.sweepShare = none := by simp [Port.choice, hh, hs]
          rw [hc]
      · rfl
    rw [hnone]
  · rfl

/-- The host-side head is granted unless the sweep list waits and the counter has reached the share (R148). -/
theorem grantOne_host (share now : Nat) (q : Port) (op : Op) (ops : List Op) (hroom : q.queue.length < 16) (hh : q.hostList = op :: ops)
    (hs : q.sweepList = [] ∨ q.hostGrants < share) : q.grantOne share now = some (Port.withIssued
      { q with hostList := ops, hostGrants := q.hostGrants + if q.sweepList = [] then 0 else 1 } now op) := by
  unfold Port.grantOne
  rw [if_pos (show q.queue.length < Config.queuePlaces from hroom)]
  cases hl : q.sweepList with
  | nil => simp [Port.choice, hh, hl, Port.issueOp, Port.withIssued]
  | cons y ys =>
    have hlt : q.hostGrants < share := hs.resolve_left (by simp [hl])
    simp [Port.choice, hh, hl, Port.issueOp, Port.withIssued, hlt]

/-- The sweep head is granted where the host-side list is empty or the counter has reached the share (R148). -/
theorem grantOne_sweep (share now : Nat) (q : Port) (op : Op) (ops : List Op) (hroom : q.queue.length < 16) (hs : q.sweepList = op :: ops)
    (hh : q.hostList = [] ∨ share ≤ q.hostGrants) : q.grantOne share now = some (Port.withIssued
      { q with sweepList := ops, hostGrants := 0 } now op) := by
  unfold Port.grantOne
  rw [if_pos (show q.queue.length < Config.queuePlaces from hroom)]
  cases hl : q.hostList with
  | nil => simp [Port.choice, hs, hl, Port.issueOp, Port.withIssued]
  | cons y ys =>
    have hge : ¬q.hostGrants < share := Nat.not_lt.mpr (hh.resolve_left (by simp [hl]))
    simp [Port.choice, hs, hl, Port.issueOp, Port.withIssued, hge]

/-- A grant writes the port, and sends its op. -/
theorem grantOp_eq_some (p : PlaneId) (s : State) (q : Port) (op : Op) (hup : (s.plane p).link = .up)
    (h : (s.port p).grantOne s.sweepShare s.now = some (q.withIssued s.now op)) : grantOp p s = some { s.setPort p (q.withIssued s.now op) with
      out := { s.out with ops := s.out.ops ++ [(p, { op := op, slot := q.nextSlot, gen := q.gen, issuedAt := s.now })] } } := by
  unfold grantOp
  rw [if_pos hup, h]
  simp [Port.withIssued]

/-- Settles O55, by what the arbiter chooses. -/
theorem issueGrantsOne : Obligations.IssueGrantsOne := by
  intro p s issued
  refine ⟨fun h => ?_, fun hup hroom => ⟨fun op ops hh hs => ?_, fun op ops hs hh => ?_⟩⟩
  · show Host.Outcome.next ((grantOp p s.quiet).getD s.quiet) = _
    rw [grantOp_eq_none p s.quiet h]
    rfl
  · show Host.Outcome.next ((grantOp p s.quiet).getD s.quiet) = _
    rw [grantOp_eq_some p s.quiet _ op hup (grantOne_host s.sweepShare s.now (s.port p) op ops hroom hh hs)]
    rfl
  · show Host.Outcome.next ((grantOp p s.quiet).getD s.quiet) = _
    rw [grantOp_eq_some p s.quiet _ op hup (grantOne_sweep s.sweepShare s.now (s.port p) op ops hroom hs hh)]
    rfl

/-! ## Ends of jobs and drains -/

theorem Sweep.ended_room (w : Sweep) (j : Job) (o : JobOutcome) (h : w.completions.length < 4) : w.ended j o =
    { w with engine := .idle, job := some { j with outcome := some o }, completions := w.completions ++ [completionOf j o] } := if_pos h

theorem Sweep.ended_full (w : Sweep) (j : Job) (o : JobOutcome) (h : 4 ≤ w.completions.length) : w.ended j o =
    { w with engine := .ending, job := some { j with outcome := some o }, waiting := some (completionOf j o) } :=
  if_neg (Nat.not_lt.mpr h)

theorem endJob_sweep (j : Job) (o : JobOutcome) (s : State) : (endJob j o s).sweep = s.sweep.ended j o := by
  obtain ⟨planes, h⟩ := endJob_shape j o s
  rw [h]

/-- The end of a job writes planes and engine alone. -/
theorem endJob_frame_eq (j : Job) (o : JobOutcome) (s : State) :
    endJob j o s = { s with planes := (endJob j o s).planes, sweep := (endJob j o s).sweep } := by
  obtain ⟨planes, h⟩ := endJob_shape j o s
  rw [h]

theorem completeJob_due {s : State} {j : Job} (hj : s.sweep.job = some j) (hr : s.sweep.engine = .running) (hc : j.last < j.cursor)
    (hf : noSlotInFlight s = true) : completeJob s = endJob j .complete s := by
  unfold completeJob
  simp only [hr, hj]
  exact if_pos ⟨hc, hf⟩

theorem completeJob_not_due {s : State} {j : Job} (hj : s.sweep.job = some j)
    (h : s.sweep.engine ≠ .running ∨ j.cursor ≤ j.last ∨ noSlotInFlight s = false) : completeJob s = s := by
  rcases completeJob_cases s with he | ⟨j', hr, hj', hf, hc, -⟩
  · exact he
  · rw [hj] at hj'
    cases hj'
    rcases h with h | h | h
    · exact absurd hr h
    · omega
    · rw [hf] at h; cases h

theorem endAbort_due {s : State} {j : Job} {o : JobOutcome} (hj : s.sweep.job = some j) (he : s.sweep.engine = .aborting)
    (ho : j.outcome = some o) (hf : noSlotInFlight s = true) (hd : targetsDrained s j = true) : endAbort s = endJob j o s := by
  unfold endAbort
  simp only [he, hj, ho]
  exact if_pos ⟨hf, hd⟩

theorem endAbort_not_due {s : State} {j : Job} (hj : s.sweep.job = some j)
    (h : s.sweep.engine ≠ .aborting ∨ noSlotInFlight s = false ∨ targetsDrained s j = false) : endAbort s = s := by
  refine endAbort_eq s fun i hi he => ?_
  rw [hj] at hi
  cases hi
  exact h.resolve_left (fun hn => hn he)

/-- Settles O57, by the row and by whether its step is due. -/
theorem endSteps : Obligations.EndSteps := by
  intro s ended
  have hended : ∀ j o, ended j o (endJob j o s.quiet) := fun j o =>
    ⟨fun p => endJob_plane j o s.quiet p, ⟨fun h => (endJob_sweep j o s.quiet).trans (Sweep.ended_room _ j o h),
      fun h => (endJob_sweep j o s.quiet).trans (Sweep.ended_full _ j o h)⟩, endJob_frame_eq j o s.quiet⟩
  refine ⟨fun j hj => ⟨fun hr hc hf => ⟨_, congrArg Host.Outcome.next (completeJob_due (s := s.quiet) hj hr hc hf), hended j .complete⟩,
    fun h => congrArg Host.Outcome.next (completeJob_not_due (s := s.quiet) hj h),
    fun o he ho _ hf hd => ⟨_, congrArg Host.Outcome.next (endAbort_due (s := s.quiet) hj he ho hf hd), hended j o⟩,
    fun h => congrArg Host.Outcome.next (endAbort_not_due (s := s.quiet) hj h)⟩, fun h => ?_, fun c he hw hl => ?_, fun p => ⟨fun h => ?_, fun h he => ?_⟩⟩
  · show Host.Outcome.next (placeWaiting s.quiet) = _
    rcases placeWaiting_cases s.quiet with hp | ⟨c, he, -, hl, -⟩
    · rw [hp]; rfl
    · rcases h with h | h
      · exact absurd he h
      · exact absurd hl (Nat.not_lt.mpr h)
  · show Host.Outcome.next (placeWaiting s.quiet) = _
    unfold placeWaiting State.quiet
    simp only [he, hw]
    rw [if_pos (show s.sweep.completions.length < Config.completionPlaces from hl)]
  · refine congrArg Host.Outcome.next (drainPlane_eq s.quiet p fun hd => ?_)
    exact h.resolve_left (fun hn => hn hd)
  · show Host.Outcome.next (drainPlane s.quiet p) = _
    unfold drainPlane
    rw [if_pos ⟨h, he⟩]
    rfl

/-! ## LOG_PEEK and one lock entry -/

/-- Settles O24: the oldest record, or none. -/
theorem logPeekAnswers : Obligations.LogPeekAnswers := by
  intro s hs
  have hrun : ∀ t, execLogPeek [] s = .next t → exec (.logPeek []) s = .next t := fun _ h => h
  refine ⟨fun h => hrun _ ?empty, fun d ds h => hrun _ ?held⟩
  case empty =>
    refine (runCommand_ready 0 [] _ s hs rfl).trans ?_
    dsimp only [opened_log]
    rw [h]
    rfl
  case held =>
    refine (runCommand_ready 0 [] _ s hs rfl).trans ?_
    dsimp only [opened_log]
    rw [h]
    obtain ⟨_, ⟨_, _, origin, _, _⟩, _⟩ := d
    cases origin <;> rfl

/-- Settles O59, by the head of the list. -/
theorem lockGrants : Obligations.LockGrants := by
  intro e
  refine ⟨fun h => ?_, fun hh hw => ?_, fun c cs hh hw => ⟨fun hc => ?_, fun hc => ?_⟩⟩
  · unfold LockEntry.advance
    rw [if_neg (by simpa using h)]
  · simp [LockEntry.advance, hh, hw]
  · simp [LockEntry.advance, hh, hw, hc]
  · have hrest : ∀ x ∈ ((c :: cs).dropWhile fun x => x.kind == .hostRead).head?, x.kind ≠ .hostRead := by
      intro x hx
      have hnot := List.head?_dropWhile_not (fun x : Claim => x.kind == .hostRead) (c :: cs)
      rw [Option.mem_def.mp hx] at hnot
      simpa using hnot
    refine ⟨_, _, by rw [hw]; exact (List.takeWhile_append_dropWhile (p := fun x : Claim => x.kind == .hostRead) (l := c :: cs)).symm,
      by simp [hc], fun x hx => ?_, hrest, ?_⟩
    · have := List.mem_takeWhile_imp hx
      simpa using this
    · simp [LockEntry.advance, hh, hw, hc]

end Sys2Proof.Machine
end

section
/-! PROOFS. The commands whose effect goes beyond a result: PLANE_DETACH, POLICY_SET, SWEEP_ABORT, and the refusals of SWEEP_START. -/

namespace Sys2Proof.Machine

/-! ## The end of an event where one drain at most is due -/

theorem foldl_drainPlane_eq (l : List PlaneId) (s : State) (h : ∀ p ∈ l, (s.plane p).state = .detaching → (s.port p).isEmpty = false) :
    l.foldl drainPlane s = s := by
  induction l with
  | nil => rfl
  | cons p l ih =>
    rw [List.foldl_cons, drainPlane_eq s p (h p List.mem_cons_self)]
    exact ih fun q hq => h q (List.mem_cons_of_mem _ hq)

/-- With no plane DETACHING, the end of an event is the test of an ABORTING job alone. -/
theorem endOfEvent_calm (s : State) (h : ∀ p, (s.plane p).state ≠ .detaching) : endOfEvent s = endAbort s := by
  refine foldl_drainPlane_eq allPlanes _ fun p _ hp => ?_
  rcases endAbort_cases s with he | ⟨j, o, -, -, -, -, -, he⟩
  · rw [he] at hp
    exact absurd hp (h p)
  · rw [he, endJob_plane] at hp
    split at hp
    · split at hp <;> cases hp
    · exact absurd hp (h p)

theorem drainPlane_plane_of_ne (s : State) {p q : PlaneId} (h : q ≠ p) : (drainPlane s p).plane q = s.plane q := by
  rcases drainPlane_cases s p with he | ⟨-, -, he⟩ <;> rw [he]
  exact (State.setPlane_plane s p _ q).trans (if_neg h)

/-- With one plane DETACHING at most, the drains are its own. -/
theorem foldl_drainPlane_one (s : State) (p : PlaneId) (h : ∀ q, q ≠ p → (s.plane q).state ≠ .detaching) :
    allPlanes.foldl drainPlane s = drainPlane s p := by
  obtain ⟨l, m, hlm⟩ := List.append_of_mem (mem_allPlanes p)
  have hnodup : (l ++ p :: m).Nodup := hlm ▸ (by decide : allPlanes.Nodup)
  obtain ⟨-, hm, hdisjoint⟩ := List.nodup_append.mp hnodup
  rw [hlm, List.foldl_append, List.foldl_cons, foldl_drainPlane_eq l s fun q hq hd =>
    absurd hd (h q (hdisjoint q hq p List.mem_cons_self)), foldl_drainPlane_eq m _ fun q hq hd => ?_]
  have hqp : q ≠ p := fun he => (List.nodup_cons.mp hm).1 (he ▸ hq)
  rw [drainPlane_plane_of_ne s hqp] at hd
  exact absurd hd (h q hqp)

/-- The drain of an ABORTING job looks at its SYNCING targets and their ports (R107). -/
theorem targetsDrained_congr {s t : State} (hp : ∀ p, (t.plane p).state = .syncing ↔ (s.plane p).state = .syncing)
    (hq : t.ports = s.ports) (j : Job) : targetsDrained t j = targetsDrained s j := by
  have hsyncing : planesIn t .syncing = planesIn s .syncing := planeSet_ext _ _ fun p => by
    simp only [inSet_planesIn, Bool.beq_eq_decide_eq, hp]
  simp only [targetsDrained, syncingTargets, hsyncing, State.port, hq]

/-! ## PLANE_DETACH (R12, R13) -/

theorem exec_planeDetach (params : List Byte) (s : State) : exec (.planeDetach params) s = runPlaneCommand params detachPlane s := rfl

theorem dropPlane_onlinePlanes_eq_zero (s : State) (p : PlaneId) :
    dropPlane (onlinePlanes s) p = 0 ↔ ∀ q, q ≠ p → (s.plane q).state ≠ .online := by
  rw [show (0 : PlaneSet) = 0#4 from rfl, planeSet_eq_zero]
  refine forall_congr' fun q => ?_
  by_cases h : q = p <;> simp [h]

theorem detachPlane_conflict (p : PlaneId) (s : State) (h : (s.plane p).state ≠ .online) : detachPlane p s = refuse .conflict s := by
  rw [detachPlane, if_pos h]

theorem detachPlane_lastCopy (p : PlaneId) (s : State) (h : (s.plane p).state = .online)
    (hq : ∀ q, q ≠ p → (s.plane q).state ≠ .online) : detachPlane p s = refuse .lastCopy s := by
  rw [detachPlane, if_neg (not_not_intro h), if_pos ((dropPlane_onlinePlanes_eq_zero s p).mpr hq)]

/-- The state in which a plane has become DETACHING (R12). -/
def detached (p : PlaneId) (s : State) : State :=
  { s.setPlane p { s.plane p with state := .detaching } with mgmt := { s.mgmt with busy := true } }

/-- An accepted PLANE_DETACH drains at once where nothing else is due (R13). -/
theorem detachPlane_accepted (p : PlaneId) (s : State) (h : (s.plane p).state = .online)
    (hq : ∃ q, q ≠ p ∧ (s.plane q).state = .online) (hdue : NothingDue s) (hd : ∀ q, (s.plane q).state ≠ .detaching) :
    detachPlane p s = drainPlane (detached p s) p := by
  have hplane : ∀ q, ((detached p s).plane q).state = if q = p then .detaching else (s.plane q).state := fun q => by
    refine (congrArg PlaneRec.state (State.setPlane_plane s p { s.plane p with state := .detaching } q)).trans ?_
    split <;> rfl
  have hsyncing : ∀ q, ((detached p s).plane q).state = .syncing ↔ (s.plane q).state = .syncing := fun q => by
    rw [hplane]
    split
    · next hqp => simp [hqp, h]
    · rfl
  have hlast : ¬dropPlane (onlinePlanes s) p = 0 := fun h0 => by
    obtain ⟨q, hqp, hs⟩ := hq
    exact (dropPlane_onlinePlanes_eq_zero s p).mp h0 q hqp hs
  rw [detachPlane, if_neg (not_not_intro h), if_neg hlast]
  have habort : endAbort (detached p s) = detached p s :=
    endAbort_eq _ fun j hj he => (hdue.1 j hj he).imp id fun ht => (targetsDrained_congr hsyncing rfl j).trans ht
  show allPlanes.foldl drainPlane (endAbort (detached p s)) = _
  rw [habort]
  exact foldl_drainPlane_one _ p fun q hqp => by rw [hplane, if_neg hqp]; exact hd q

/-- Settles O27, by the checks in order and by whether the drain is due. -/
theorem planeDetachAnswers : Obligations.PlaneDetachAnswers := by
  intro b s hr hdue hd
  simp only [exec_planeDetach]
  refine ⟨fun hb => runPlaneCommand_badParam b _ s hr hb, fun p hp => ?_⟩
  simp only [runPlaneCommand_ready b p _ s hr hp]
  refine ⟨fun h => ?conflict, fun h hq => ?lastCopy, fun h hq => ?accepted⟩
  case conflict => rw [detachPlane_conflict p (opened 3 s) h, refuse_opened]
  case lastCopy => rw [detachPlane_lastCopy p (opened 3 s) h hq, refuse_opened]
  case accepted =>
    have hstate : ((detached p (opened 3 s)).plane p).state = .detaching := congrArg PlaneRec.state (State.setPlane_plane_same ..)
    rw [detachPlane_accepted p (opened 3 s) h hq hdue hd]
    refine ⟨fun he => ?_, fun he => ?_⟩
    · rw [drainPlane_eq (detached p (opened 3 s)) p fun _ => he]
      rfl
    · rw [drainPlane, if_pos ⟨hstate, he⟩]
      simp [detached, State.setPlane, State.plane, answered, postResult, Mgmt.posted, opened, framed]

/-! ## SWEEP_ABORT (R108) -/

theorem exec_sweepAbort_ready (s : State) (h : CommandReady s) : exec (.sweepAbort []) s = .next (abortBody (opened 2 s)) :=
  runCommand_ready 0 [] abortBody s h rfl

/-- The state in which a SWEEP_ABORT has been answered and its RUNNING job has become ABORTING (R106, R108). -/
def abortedByCommand (j : Job) (s : State) : State :=
  { answered 2 .done [] s with
    sweep := { s.sweep with engine := .aborting, job := some { j with outcome := some .abortedCommand } } }

theorem abortBody_running (s : State) (j : Job) (h : s.sweep.engine = .running) (hj : s.sweep.job = some j)
    (hd : ∀ q, (s.plane q).state ≠ .detaching) : abortBody (opened 2 s) = endAbort (abortedByCommand j s) := by
  have hentered : enterAborting .abortedCommand (opened 2 s) = setEngine .aborting ((opened 2 s).setJob
      { j with outcome := some .abortedCommand }) := by
    unfold enterAborting
    rw [if_pos (show (opened 2 s).sweep.engine = .running from h), show (opened 2 s).sweep.job = some j from hj]
  have hbody : abortBody (opened 2 s) = endOfEvent (abortedByCommand j s) := by
    unfold abortBody
    rw [show (opened 2 s).sweep.engine = .running from h]
    dsimp only
    rw [hentered]
    rfl
  rw [hbody, endOfEvent_calm (abortedByCommand j s) hd]

/-- Settles O32, by the engine state. -/
theorem sweepAbortAnswers : Obligations.SweepAbortAnswers := by
  intro s hr hd
  simp only [exec_sweepAbort_ready s hr]
  refine ⟨fun h => ?stopped, fun h => ?aborting, fun j h hj => ?running⟩
  case stopped =>
    unfold abortBody
    rcases h with h | h <;> rw [show (opened 2 s).sweep.engine = _ from h] <;> rfl
  case aborting =>
    unfold abortBody
    rw [show (opened 2 s).sweep.engine = _ from h]
    rfl
  case running =>
    rw [abortBody_running s j h hj hd]
    refine ⟨fun hn => ?notDue, fun hf ht => ?due⟩
    case notDue => exact congrArg Host.Outcome.next (endAbort_not_due (s := abortedByCommand j s) rfl (.inr hn))
    case due =>
      have hend := endAbort_due (s := abortedByCommand j s) rfl rfl rfl hf ht
      generalize hj' : ({ j with outcome := some .abortedCommand } : Job) = j' at hend
      refine ⟨_, congrArg Host.Outcome.next hend, endJob_frame_eq .., fun hl => ?room, fun hl => ?full, fun p => ?planes⟩
      case room => rw [endJob_sweep, Sweep.ended_room (abortedByCommand j s).sweep _ _ hl, ← hj']; rfl
      case full => rw [endJob_sweep, Sweep.ended_full (abortedByCommand j s).sweep _ _ hl, ← hj']; rfl
      case planes => rw [endJob_plane, ← hj']; rfl

/-! ## The refusals of SWEEP_START (R89) -/

/-- The parameters that the bytes of a SWEEP_START carry. -/
def sweepParams (kind : Byte) (first last : LineWord) (targets window pattern : Byte) : SweepParams :=
  { kind := jobKind? kind, first := first.toNat, last := last.toNat, targets := planesOfByte targets, window := window.toNat
    pattern := pattern }

theorem sweepParams?_sweepStartBytes (kind : Byte) (first last : LineWord) (targets window pattern : Byte) :
    sweepParams? (sweepStartBytes kind first last targets window pattern) =
      some (sweepParams kind first last targets window pattern) := by
  simp only [sweepStartBytes, bytes4, List.cons_append, List.nil_append, sweepParams?, number4_bytes4 _ first.isLt,
    number4_bytes4 _ last.isLt]
  rfl

theorem exec_sweepStart_ready (kind : Byte) (first last : LineWord) (targets window pattern : Byte) (s : State) (h : CommandReady s) :
    exec (.sweepStart (sweepStartBytes kind first last targets window pattern)) s =
      .next (sweepStartBody (sweepParams kind first last targets window pattern) (opened 14 s)) := by
  have hrun := runCommand_ready 12 (sweepStartBytes kind first last targets window pattern)
    (match sweepParams? (sweepStartBytes kind first last targets window pattern) with | some x => sweepStartBody x | none => id) s h rfl
  refine Eq.trans ?_ (hrun.trans ?_)
  · rfl
  · rw [sweepParams?_sweepStartBytes]
    rfl

theorem sweepStartBody_busy (x : SweepParams) (s : State) (h : s.sweep.engine ≠ .idle) : sweepStartBody x s = refuse .busy s := by
  rw [sweepStartBody, if_pos h]

theorem sweepStartBody_no_kind (x : SweepParams) (s : State) (h : s.sweep.engine = .idle) (hk : x.kind = none) :
    sweepStartBody x s = refuse .badParam s := by
  rw [sweepStartBody, if_neg (not_not_intro h), hk]

theorem sweepStartBody_refused (x : SweepParams) (k : JobKind) (c : ResultCode) (s : State) (h : s.sweep.engine = .idle)
    (hk : x.kind = some k) (hc : sweepRefusal s k x = some c) : sweepStartBody x s = refuse c s := by
  rw [sweepStartBody, if_neg (not_not_intro h), hk]
  dsimp only
  rw [hc]

theorem inSet_planesOfByte (b : Byte) (p : PlaneId) : inSet (planesOfByte b) p = b.getLsbD p.val := by
  have hp : p.val < 4 := p.isLt
  simp [inSet, planesOfByte, hp]

theorem targetRefusal_conflict (s : State) (g : PlaneSet) (h : g = 0 ∨ ∃ p, inSet g p = true ∧ (s.plane p).state ≠ .offline) :
    targetRefusal s g = some .conflict := by
  unfold targetRefusal
  split
  · rfl
  · next h0 =>
    obtain ⟨p, hp, hs⟩ := h.resolve_left h0
    exact if_pos (List.any_eq_true.mpr ⟨p, (mem_planesOf g p).mpr hp, by simpa using hs⟩)

theorem targetRefusal_linkDown (s : State) (g : PlaneSet) (h : ∀ p, inSet g p = true → (s.plane p).state = .offline)
    (hl : ∃ p, inSet g p = true ∧ (s.plane p).link = .down) : targetRefusal s g = some .linkDown := by
  obtain ⟨p, hp, hdown⟩ := hl
  have hne : ¬g = 0 := fun h0 => by
    rw [h0, show (0 : PlaneSet) = 0#4 from rfl, inSet_zero] at hp
    cases hp
  have hoffline : ¬((planesOf g).any fun p => (s.plane p).state != .offline) = true := by simpa using h
  unfold targetRefusal
  rw [if_neg hne, if_neg hoffline, if_pos (List.any_eq_true.mpr ⟨p, (mem_planesOf g p).mpr hp, by simp [hdown]⟩)]

theorem sourceRefusal_noSource (s : State) (k : JobKind) (hk : k ≠ .fill) (h : ∀ p, (s.plane p).state ≠ .online) :
    sourceRefusal s k = some .noSource := by
  rw [sourceRefusal, if_neg hk]
  exact if_pos ((onlinePlanes_eq_zero s).mpr h)

theorem sourceRefusal_conflict (s : State) (h : (∃ p, (s.plane p).state.inService = true) ∨ s.service = .serving) :
    sourceRefusal s .fill = some .conflict := by
  rw [sourceRefusal, if_pos rfl, if_pos (by rwa [anyInService_iff])]

/-- The kind byte of a job with targets, and of one without. -/
theorem jobKind?_copies (b : Byte) (h : b = 1 ∨ b = 2) : ∃ k, jobKind? b = some k ∧ k.hasTargets = true ∧ (b = 1 → k = .rebuild) ∧ (b = 2 → k = .fill) := by
  rcases h with rfl | rfl <;> exact ⟨_, rfl, rfl, by decide, by decide⟩

theorem jobKind?_compares (b : Byte) (h : b = 3 ∨ b = 4) : ∃ k, jobKind? b = some k ∧ k.hasTargets = false ∧ k ≠ .fill := by
  rcases h with rfl | rfl <;> exact ⟨_, rfl, rfl, by decide⟩

theorem jobKind?_none (b : Byte) (h : ¬((b = 1 ∨ b = 2) ∨ b = 3 ∨ b = 4)) : jobKind? b = none := by
  revert h b
  decide

section
variable {s : State} {k : JobKind} {x : SweepParams} {c : ResultCode}

theorem sweepRefusal_window (h : x.window < 1 ∨ 4 < x.window) : sweepRefusal s k x = some .badParam := by
  rw [sweepRefusal, if_pos h]

theorem sweepRefusal_targets (hw : 1 ≤ x.window) (hw' : x.window ≤ 4) (ht : k.hasTargets = true)
    (h : targetRefusal s x.targets = some c) : sweepRefusal s k x = some c := by
  rw [sweepRefusal, if_neg (by omega), if_pos ht, h]
  rfl

theorem sweepRefusal_source (hw : 1 ≤ x.window) (hw' : x.window ≤ 4) (ht : k.hasTargets = true)
    (h : targetRefusal s x.targets = none) (hc : sourceRefusal s k = some c) : sweepRefusal s k x = some c := by
  rw [sweepRefusal, if_neg (by omega), if_pos ht, h]
  exact hc

theorem sweepRefusal_range (hw : 1 ≤ x.window) (hw' : x.window ≤ 4) (ht : k.hasTargets = false)
    (h : x.last < x.first ∨ planeLines s ≤ x.last) : sweepRefusal s k x = some .badParam := by
  rw [sweepRefusal, if_neg (by omega), if_neg (by simp [ht]), if_pos h]

theorem sweepRefusal_range_source (hw : 1 ≤ x.window) (hw' : x.window ≤ 4) (ht : k.hasTargets = false) (h : x.first ≤ x.last)
    (hl : x.last < planeLines s) (hc : sourceRefusal s k = some c) : sweepRefusal s k x = some c := by
  rw [sweepRefusal, if_neg (by omega), if_neg (by simp [ht]), if_neg (by omega), hc]

end

/-- Settles O33, by the first check that fails. -/
theorem sweepStartRefusals : Obligations.SweepStartRefusals := by
  intro kind first last targets window pattern s hr run copies compares named
  have hrun : run = .next (sweepStartBody (sweepParams kind first last targets window pattern) (opened 14 s)) :=
    exec_sweepStart_ready kind first last targets window pattern s hr
  have hrefused : ∀ k c, s.sweep.engine = .idle → jobKind? kind = some k →
      sweepRefusal (opened 14 s) k (sweepParams kind first last targets window pattern) = some c →
      run = .next (answered 14 c [] s) := fun k c hidle hk hc =>
    hrun.trans (congrArg Host.Outcome.next (sweepStartBody_refused _ k c (opened 14 s) hidle hk hc))
  have hnamed : ∀ p, inSet (planesOfByte targets) p = true ↔ named p := fun p => by rw [inSet_planesOfByte]
  have hempty : (∀ p, ¬named p) → planesOfByte targets = 0 := fun h => (planeSet_eq_zero _).mpr fun p =>
    Bool.eq_false_iff.mpr fun hp => h p ((hnamed p).mp hp)
  refine ⟨fun h => ?busy, fun hidle h => ?badParam, fun hidle hw hw' => ⟨fun hc h => ?range, fun hc hf hl hs => ?compareSource,
    fun hc h => ?conflict, fun hc hsome hoff => ⟨fun hl => ?linkDown, fun hl => ⟨fun hk hs => ?noSource, fun hk hs => ?inService⟩⟩⟩⟩
  case busy => exact hrun.trans (congrArg Host.Outcome.next (sweepStartBody_busy _ (opened 14 s) h))
  case badParam =>
    by_cases hkind : copies ∨ compares
    · have hwindow : window.toNat < 1 ∨ 4 < window.toNat := h.resolve_left (not_not_intro hkind)
      rcases hkind with hc | hc
      · obtain ⟨k, hk, -⟩ := jobKind?_copies kind hc
        exact hrefused k _ hidle hk (sweepRefusal_window hwindow)
      · obtain ⟨k, hk, -⟩ := jobKind?_compares kind hc
        exact hrefused k _ hidle hk (sweepRefusal_window hwindow)
    · exact hrun.trans (congrArg Host.Outcome.next (sweepStartBody_no_kind _ (opened 14 s) hidle (jobKind?_none kind hkind)))
  case range =>
    obtain ⟨k, hk, ht, -⟩ := jobKind?_compares kind hc
    exact hrefused k _ hidle hk (sweepRefusal_range hw hw' ht h)
  case compareSource =>
    obtain ⟨k, hk, ht, hne⟩ := jobKind?_compares kind hc
    exact hrefused k _ hidle hk (sweepRefusal_range_source hw hw' ht hf hl (sourceRefusal_noSource (opened 14 s) k hne hs))
  case conflict =>
    obtain ⟨k, hk, ht, -⟩ := jobKind?_copies kind hc
    exact hrefused k _ hidle hk (sweepRefusal_targets hw hw' ht (targetRefusal_conflict (opened 14 s) _
      (h.imp hempty fun ⟨p, hp, ho⟩ => ⟨p, (hnamed p).mpr hp, ho⟩)))
  case linkDown =>
    obtain ⟨k, hk, ht, -⟩ := jobKind?_copies kind hc
    obtain ⟨p, hp, hdown⟩ := hl
    exact hrefused k _ hidle hk (sweepRefusal_targets hw hw' ht (targetRefusal_linkDown (opened 14 s) _
      (fun p hp => hoff p ((hnamed p).mp hp)) ⟨p, (hnamed p).mpr hp, hdown⟩))
  all_goals
    obtain ⟨k, hk', ht, hrebuild, hfill⟩ := jobKind?_copies kind hc
    have htargets : targetRefusal (opened 14 s) (planesOfByte targets) = none := by
      refine (targetRefusal_eq_none _ _).mpr ⟨fun h0 => ?_, fun p hp => ⟨hoff p ((hnamed p).mp hp), hl p ((hnamed p).mp hp)⟩⟩
      obtain ⟨p, hp⟩ := hsome
      exact Bool.false_ne_true (((planeSet_eq_zero _).mp h0 p).symm.trans ((hnamed p).mpr hp))
  case noSource =>
    exact hrefused k _ hidle hk' (sweepRefusal_source hw hw' ht htargets (sourceRefusal_noSource (opened 14 s) k (by simp [hrebuild hk]) hs))
  case inService =>
    refine hrefused k _ hidle hk' (sweepRefusal_source hw hw' ht htargets ?_)
    rw [hfill hk]
    exact sourceRefusal_conflict (opened 14 s) hs

/-! ## Expiries one after another (R141) -/

/-- An expiry that has come due is the failure of its plane, and the event's end. -/
theorem expireOverdue_due (s : State) (p : PlaneId) (h : overdue s p = true) :
    expireOverdue s p = endOfEvent (failPlane p .timeout s) := by
  obtain ⟨hs, q, qs, hq, hlate⟩ := (overdue_iff s p).mp h
  have hdue : dueAt s p = some (q.issuedAt + s.planeTimeout + 1) := by
    unfold dueAt
    rw [if_pos hs, hq]
    rfl
  have hmax : max s.now (q.issuedAt + s.planeTimeout + 1) = s.now := Nat.max_eq_left hlate
  unfold expireOverdue expire
  rw [if_pos h, hdue]
  dsimp only
  rw [hmax]

/-- What the expiries of other planes leave of an ONLINE or FAILED plane. -/
structure Spares (p : PlaneId) (s t : State) : Prop where
  now : t.now = s.now
  timeout : t.planeTimeout = s.planeTimeout
  miso : t.out.miso = s.out.miso
  port : Port.Goes s.now (s.port p) (t.port p)
  online : (s.plane p).state = .online → t.plane p = s.plane p
  failed : (s.plane p).state = .failed → (s.port p).hostList = [] → (s.port p).sweepList = [] → t.plane p = s.plane p ∧ t.port p = s.port p

theorem Spares.refl (p : PlaneId) (s : State) : Spares p s s := ⟨rfl, rfl, rfl, .refl _ _, fun _ => rfl, fun _ _ _ => ⟨rfl, rfl⟩⟩

theorem Spares.trans {p : PlaneId} {s t u : State} (h : Spares p s t) (k : Spares p t u) : Spares p s u where
  now := k.now.trans h.now
  timeout := k.timeout.trans h.timeout
  miso := k.miso.trans h.miso
  port := h.port.trans (h.now ▸ k.port)
  online hs := (k.online (by rw [h.online hs]; exact hs)).trans (h.online hs)
  failed hs hh hl := by
    obtain ⟨hplane, hport⟩ := h.failed hs hh hl
    obtain ⟨hplane', hport'⟩ := k.failed (by rw [hplane]; exact hs) (by rw [hport]; exact hh) (by rw [hport]; exact hl)
    exact ⟨hplane'.trans hplane, hport'.trans hport⟩

theorem expireOverdue_spares (s : State) {p q : PlaneId} (h : p ≠ q) : Spares p s (expireOverdue s q) := by
  cases hdue : overdue s q with
  | false => rw [expireOverdue_eq s q hdue]; exact .refl p s
  | true =>
    have hs := ((overdue_iff s q).mp hdue).1
    have hfails := failPlane_fails q .timeout s hs
    have hports := failPlane_failsPorts q .timeout s hs
    have hends := endOfEvent_ends (failPlane q .timeout s)
    rw [expireOverdue_due s q hdue]
    have hplane : (s.plane p).state ≠ .syncing → (s.plane p).state ≠ .detaching →
        (endOfEvent (failPlane q .timeout s)).plane p = s.plane p := fun hns hnd => by
      have hsame := (hfails.other p h).resolve_right fun hr => hns hr.1
      exact (hends.plane_eq p (by rw [hsame]; exact hnd) (by rw [hsame]; exact hns)).trans hsame
    refine ⟨hends.now.trans hports.now, hends.timeout.trans hports.timeout, by rw [hends.out]; exact hports.miso, ?_, fun ho => ?_,
      fun hf hh hl => ⟨?_, ?_⟩⟩
    · rw [hends.port]; exact hports.port p h
    · exact hplane (by simp [ho]) (by simp [ho])
    · exact hplane (by simp [hf]) (by simp [hf])
    · rw [hends.port]; exact hports.still p h (by simp [TakesOps, hf]) hh hl

theorem foldl_expireOverdue_spares {p : PlaneId} (l : List PlaneId) (s : State) (h : p ∉ l) : Spares p s (l.foldl expireOverdue s) := by
  induction l generalizing s with
  | nil => exact .refl p s
  | cons q l ih =>
    have hq : p ≠ q := fun he => h (he ▸ List.mem_cons_self)
    exact (expireOverdue_spares s hq).trans (ih _ fun hp => h (List.mem_cons_of_mem _ hp))

/-- Neither time nor policies nor MISO change with an expiry that has come due. -/
theorem foldl_expireOverdue_frame (l : List PlaneId) (s : State) : (l.foldl expireOverdue s).planeTimeout = s.planeTimeout ∧
    (l.foldl expireOverdue s).now = s.now ∧ (l.foldl expireOverdue s).out.miso = s.out.miso := by
  induction l generalizing s with
  | nil => exact ⟨rfl, rfl, rfl⟩
  | cons q l ih =>
    have hne : q + 1 ≠ q := by revert q; decide
    have hstep := expireOverdue_spares s hne
    obtain ⟨htimeout, hnow, hmiso⟩ := ih (expireOverdue s q)
    exact ⟨htimeout.trans hstep.timeout, hnow.trans hstep.now, hmiso.trans hstep.miso⟩

/-- Ops issued now do not make an ONLINE plane overdue. -/
theorem Spares.overdue_eq {p : PlaneId} {s t : State} (h : Spares p s t) (hs : (s.plane p).state = .online) :
    overdue t p = overdue s p := by
  obtain ⟨⟨l, hl, hnow⟩, -⟩ := h.port
  have hplane := h.online hs
  rw [Bool.eq_iff_iff, overdue_iff, overdue_iff, hplane, h.now, h.timeout]
  refine and_congr_right fun _ => ?_
  cases hq : (s.port p).queue with
  | cons x xs => simp [hl, hq]
  | nil =>
    rw [hq, List.nil_append] at hl
    refine iff_of_false ?_ (by simp)
    rintro ⟨x, xs, hx, hlate⟩
    have hissued := hnow x (by rw [← hl, hx]; exact List.mem_cons_self)
    omega

/-- What the expiries in ascending plane order do to an ONLINE plane (R141). -/
theorem foldl_expireOverdue_online (s : State) (p : PlaneId) (hs : (s.plane p).state = .online) :
    (overdue s p = false → ((allPlanes.foldl expireOverdue s).plane p).state = .online) ∧
      (overdue s p = true → (allPlanes.foldl expireOverdue s).plane p = failedRecord (s.plane p) .timeout ∧
        (allPlanes.foldl expireOverdue s).port p = (s.port p).flushed) := by
  obtain ⟨l, m, hlm⟩ := List.append_of_mem (mem_allPlanes p)
  have hnodup : (l ++ p :: m).Nodup := hlm ▸ (by decide : allPlanes.Nodup)
  obtain ⟨-, hm, hdisjoint⟩ := List.nodup_append.mp hnodup
  have hbefore := foldl_expireOverdue_spares l s fun hp => hdisjoint p hp p List.mem_cons_self rfl
  rw [hlm, List.foldl_append, List.foldl_cons]
  generalize l.foldl expireOverdue s = a at hbefore
  have hafter := foldl_expireOverdue_spares m (expireOverdue a p) (List.nodup_cons.mp hm).1
  have ha := hbefore.online hs
  rw [← hbefore.overdue_eq hs]
  refine ⟨fun hdue => ?_, fun hdue => ?_⟩
  · rw [expireOverdue_eq a p hdue] at hafter ⊢
    rw [hafter.online (by rw [ha]; exact hs), ha]
    exact hs
  · have hserves : (a.plane p).state.inService = true := by rw [ha, hs]; rfl
    have hfails := failPlane_fails p .timeout a hserves
    have hports := failPlane_failsPorts p .timeout a hserves
    have hends := endOfEvent_ends (failPlane p .timeout a)
    have hplane : (expireOverdue a p).plane p = failedRecord (s.plane p) .timeout := by
      rw [expireOverdue_due a p hdue, hends.plane_eq p (by rw [hfails.failed]; exact nofun) (by rw [hfails.failed]; exact nofun),
        hfails.failed, ha]
    have hport : (expireOverdue a p).port p = (s.port p).flushed := by
      rw [expireOverdue_due a p hdue, hends.port, hports.flushed]
      unfold Port.flushed
      rw [hbefore.port.2]
    obtain ⟨h1, h2⟩ := hafter.failed (by rw [hplane]; rfl) (by rw [hport]; rfl) (by rw [hport]; rfl)
    exact ⟨h1.trans hplane, h2.trans hport⟩

theorem foldl_expireOverdue_eq (l : List PlaneId) (s : State) (h : ∀ p, overdue s p = false) : l.foldl expireOverdue s = s := by
  induction l with
  | nil => rfl
  | cons p l ih => rw [List.foldl_cons, expireOverdue_eq s p (h p), ih]

/-! ## POLICY_SET (R175) -/

theorem exec_policySetPlaneTimeout_ready (hi lo : Byte) (s : State) (h : CommandReady s) :
    exec (.policySetPlaneTimeout [hi, lo]) s = .next (storeTimeout (number2 hi lo) (opened 5 s)) := runPolicySet_ready hi lo _ s h

/-- The oldest op of a plane is overdue under a timeout where it was issued longer ago. -/
theorem overdue_within (s : State) (p : PlaneId) (hs : (s.plane p).state.inService = true) :
    overdue s p = true ↔ ¬∀ x ∈ (s.port p).queue.head?, s.now ≤ x.issuedAt + s.planeTimeout := by
  rw [overdue_iff]
  cases hq : (s.port p).queue with
  | nil => simp
  | cons x xs => simp [hs]

theorem overdue_of_within (s : State) (p : PlaneId) (h : ∀ x ∈ (s.port p).queue.head?, s.now ≤ x.issuedAt + s.planeTimeout) :
    overdue s p = false := by
  rw [Bool.eq_false_iff]
  intro hdue
  exact (overdue_within s p ((overdue_iff s p).mp hdue).1).mp hdue h

/-- A stored timeout brings the expiries it finds due, where it is lowered. -/
theorem storeTimeout_stored (v : Nat) (s : State) (hv : 2 ≤ v ∧ v ≤ 1023) : storeTimeout v (opened 5 s) =
    expireLowered s.planeTimeout { answered 5 .done [] s with planeTimeout := v } := if_pos hv

/-- Settles O29, by the selector; for the plane timeout by whether it is lowered. -/
theorem policySetAnswers : Obligations.PolicySetAnswers := by
  intro hi lo s hr v
  refine ⟨runPolicySet_ready hi lo _ s hr, ?_⟩
  intro within
  have hwithin : ∀ p, within p → overdue { answered 5 .done [] s with planeTimeout := v } p = false := fun p h =>
    overdue_of_within { answered 5 .done [] s with planeTimeout := v } p h
  refine ⟨fun h => ?badTimeout, fun hlow hhigh => ⟨fun h => ?calm, fun h => ?lowered⟩, runPolicySet_ready hi lo _ s hr,
    runPolicySet_ready hi lo _ s hr, ?mode, ?mask⟩
  case badTimeout => exact (exec_policySetPlaneTimeout_ready hi lo s hr).trans (congrArg Host.Outcome.next (if_neg h))
  case calm =>
    rw [exec_policySetPlaneTimeout_ready hi lo s hr, show number2 hi lo = v from rfl, storeTimeout_stored v s ⟨hlow, hhigh⟩]
    refine congrArg Host.Outcome.next ?_
    unfold expireLowered
    split
    · next hlt => exact foldl_expireOverdue_eq _ _ fun p => hwithin p (h.resolve_left (Nat.not_le.mpr hlt) p)
    · rfl
  case lowered =>
    rw [exec_policySetPlaneTimeout_ready hi lo s hr, show number2 hi lo = v from rfl, storeTimeout_stored v s ⟨hlow, hhigh⟩]
    unfold expireLowered
    rw [if_pos (show v < s.planeTimeout from h)]
    obtain ⟨htimeout, hnow, hmiso⟩ := foldl_expireOverdue_frame allPlanes { answered 5 .done [] s with planeTimeout := v }
    refine ⟨_, rfl, htimeout, hnow, hmiso, fun p hp => ?_⟩
    obtain ⟨hspared, hexpired⟩ := foldl_expireOverdue_online { answered 5 .done [] s with planeTimeout := v } p hp
    refine ⟨fun h => hspared (hwithin p h), fun h => hexpired ?_⟩
    exact (overdue_within { answered 5 .done [] s with planeTimeout := v } p
      (show (s.plane p).state.inService = true by rw [hp]; rfl)).mpr h
  case mode =>
    refine (runPolicySet_ready hi lo _ s hr).trans (congrArg Host.Outcome.next ?_)
    show (if 0 ≤ v ∧ v ≤ 1 then _ else _) = _
    by_cases h0 : v = 0
    · rw [if_pos (by omega), if_pos h0]
      simp only [show number2 hi lo = v from rfl, h0, if_true]
      rfl
    · by_cases h1 : v = 1
      · rw [if_pos (by omega), if_neg h0, if_pos h1]
        simp only [show number2 hi lo = v from rfl, h0, if_false]
        rfl
      · rw [if_neg (by omega), if_neg h0, if_neg h1]
        rfl
  case mask =>
    have hrun : exec (.policySetAlertMask [hi, lo]) s =
        .next (postResult .done [] { opened 5 s with alertMask := BitVec.ofNat 7 (number2 hi lo) }) :=
      runPolicySet_ready hi lo (fun v s => postResult .done [] { s with alertMask := BitVec.ofNat 7 v }) s hr
    have hmask : BitVec.ofNat 7 (number2 hi lo) = lo.setWidth 7 := by
      refine BitVec.eq_of_toNat_eq ?_
      rw [BitVec.toNat_ofNat, BitVec.toNat_setWidth, number2]
      omega
    rw [hrun, hmask]
    rfl

end Sys2Proof.Machine
end

section
/-! PROOFS. Rules for following one event by hand: what a request's record and response are after each write, what a claim and a release
do to the lock table, and what the arbiters issue at once. -/

namespace Sys2Proof.Machine

/-! ## Writes one after another -/

@[simp] theorem State.setTag_setTag (s : State) (t : Tag) (x y : TagEntry) : (s.setTag t x).setTag t y = s.setTag t y := by
  simp [State.setTag]

@[simp] theorem State.setSlot_setSlot (s : State) (k : SlotId) (x y : Option SlotWork) : (s.setSlot k x).setSlot k y = s.setSlot k y := by
  simp [State.setSlot]

@[simp] theorem State.setPort_setPort (s : State) (p : PlaneId) (x y : Port) : (s.setPort p x).setPort p y = s.setPort p y := by
  simp [State.setPort]

theorem State.setPosition_self (s : State) (t : Tag) (x : HostPos) (h : s.position t = x) : s.setPosition t x = s := by
  subst h
  simp [State.setPosition, State.position]

theorem State.setPort_self (s : State) (p : PlaneId) (x : Port) (h : s.port p = x) : s.setPort p x = s := by
  subst h
  simp [State.setPort, State.port]

/-! ## Requests and responses -/

section
variable {s : State} {t : Tag} {r r' : Request}

theorem requestAt_live (hp : (s.position t).kept = none) (ht : s.tag t = .inWork r) : requestAt s t = some r := by
  unfold requestAt
  rw [hp, ht]
  rfl

theorem requestAt_kept (hp : (s.position t).kept = some r) : requestAt s t = some r := by
  unfold requestAt
  rw [hp]

theorem setRequest_live (hp : (s.position t).kept = none) (ht : s.tag t = .inWork r) : setRequest t r' s = s.setTag t (.inWork r') := by
  unfold setRequest
  rw [hp, ht]
  rfl

theorem setRequest_queued {st : Status} (hp : (s.position t).kept = none) (ht : s.tag t = .queued r st) :
    setRequest t r' s = s.setTag t (.queued r' st) := by
  unfold setRequest
  rw [hp, ht]
  rfl

theorem setRequest_kept (hp : (s.position t).kept = some r) :
    setRequest t r' s = s.setPosition t { s.position t with kept := some r' } := by
  unfold setRequest
  rw [hp]

theorem produce_live (st : Status) (d : LineData) (ht : s.tag t = .inWork r) : produce t st d s =
    { s.setTag t (.queued (r.answered st) st) with
      responses := s.responses ++ [{ kind := r.kind, tag := t, status := st, data := d }] } := by
  unfold produce
  rw [ht]

end

/-! ## Lock table -/

/-- A claim on a line without an entry makes the entry and holds it (R24). -/
theorem lockPlace_absent (c : Claim) (line : Nat) (l : List LockEntry) (h : lockOf l line = none) :
    lockPlace c line l = (l ++ [{ line := line, kind := some c.kind, holders := [c.pos], waiting := [] }], true) := by
  induction l with
  | nil => rfl
  | cons e es ih =>
    obtain ⟨he, hes⟩ : ¬e.line = line ∧ lockOf es line = none := by
      unfold lockOf at h
      rw [List.find?_cons] at h
      split at h
      · cases h
      · next hne => exact ⟨by simpa using hne, h⟩
    rw [lockPlace, if_neg he, ih hes]
    rfl

/-- A claim on a line with an entry arrives there (R24). -/
theorem lockPlace_present (c : Claim) (l : List LockEntry) (e : LockEntry) (he : e ∈ l) (hn : (l.map LockEntry.line).Nodup) :
    lockPlace c e.line l = (l.map fun x => if x.line = e.line then x.arrive c else x, joinsReaders e c) := by
  induction l with
  | nil => cases he
  | cons x xs ih =>
    obtain ⟨hx, hxs⟩ := List.nodup_cons.mp hn
    rw [lockPlace]
    by_cases hline : x.line = e.line
    · have hxe : e = x := by
        refine (List.mem_cons.mp he).resolve_right fun hm => hx ?_
        rw [hline]
        exact List.mem_map_of_mem hm
      subst hxe
      have hrest : (xs.map fun x => if x.line = e.line then x.arrive c else x) = xs := by
        refine (List.map_congr_left fun y hy => if_neg fun hy' => hx ?_).trans (List.map_id _)
        rw [← hy']
        exact List.mem_map_of_mem hy
      rw [if_pos rfl, List.map_cons, if_pos rfl, hrest]
    · have hm : e ∈ xs := (List.mem_cons.mp he).resolve_left fun h => hline (by rw [h])
      rw [if_neg hline, ih hm hxs, List.map_cons, if_neg hline]

theorem not_holds_iff (s : State) (pos : Claimant) : holdsLine s pos = false ↔ ∀ e ∈ s.locks, pos ∉ e.holders := by
  simp [holdsLine]

/-- A release reaches the first entry that its claimant holds (R25). -/
theorem lockRelease_first (pos : Claimant) (l m : List LockEntry) (e : LockEntry) (hl : ∀ x ∈ l, pos ∉ x.holders) (he : pos ∈ e.holders) :
    lockRelease pos (l ++ e :: m) = (l ++ ((LockEntry.advance { e with holders := e.holders.erase pos }).1.toList ++ m),
      (LockEntry.advance { e with holders := e.holders.erase pos }).2) := by
  induction l with
  | nil =>
    rw [List.nil_append, lockRelease, if_pos (List.contains_iff_mem.mpr he)]
    rfl
  | cons x xs ih =>
    have hx : ¬x.holders.contains pos = true := fun hc => hl x List.mem_cons_self (List.contains_iff_mem.mp hc)
    rw [List.cons_append, lockRelease, if_neg hx, ih fun y hy => hl y (List.mem_cons_of_mem _ hy)]
    rfl

/-- The release of a line held alone, with no claim waiting, deletes its entry (R25). -/
theorem lockRelease_alone (pos : Claimant) (l m : List LockEntry) (e : LockEntry) (hl : ∀ x ∈ l, pos ∉ x.holders)
    (he : e.holders = [pos]) (hw : e.waiting = []) : lockRelease pos (l ++ e :: m) = (l ++ m, []) := by
  have hadvance : LockEntry.advance { e with holders := e.holders.erase pos } = (none, []) := by
    simp [LockEntry.advance, he, hw]
  rw [lockRelease_first pos l m e hl (by simp [he]), hadvance]
  rfl

/-! ## Issue at once -/

/-- The port after an op has been placed and issued at once: a sweep op starts the arbiter's counter again (R148). -/
def Port.takes (now : Nat) (op : Op) (q : Port) : Port :=
  Port.withIssued { q with hostGrants := match op.owner with | .host _ => q.hostGrants | .slot _ => 0 } now op

theorem Port.takes_host (now : Nat) (t : Tag) (line : Nat) (body : OpBody) (q : Port) :
    Port.takes now { owner := .host t, line := line, body := body } q = q.withIssued now { owner := .host t, line := line, body := body } := rfl

theorem Port.takes_slot (now : Nat) (k : SlotId) (line : Nat) (body : OpBody) (q : Port) :
    Port.takes now { owner := .slot k, line := line, body := body } q =
      Port.withIssued { q with hostGrants := 0 } now { owner := .slot k, line := line, body := body } := rfl

/-- An op on the lists is the one granted where there was none before. -/
theorem grantOne_enlist (share now : Nat) (op : Op) (q : Port) (hh : q.hostList = []) (hs : q.sweepList = [])
    (hroom : q.queue.length < Config.queuePlaces) : (q.enlist op).grantOne share now = some (q.takes now op) := by
  unfold Port.enlist Port.takes
  cases op.owner with
  | host t =>
    dsimp only
    refine (grantOne_host share now { q with hostList := q.hostList ++ [op] } op [] hroom (by simp [hh]) (.inl hs)).trans ?_
    simp [Port.withIssued, hh, hs]
  | slot k =>
    dsimp only
    refine (grantOne_sweep share now { q with sweepList := q.sweepList ++ [op] } op [] hroom (by simp [hs]) (.inl hh)).trans ?_
    simp [Port.withIssued, hh, hs]

/-- The state in which a plane has issued an op at once (R134). -/
def issuedTo (op : Op) (s : State) (p : PlaneId) : State :=
  { s.setPort p ((s.port p).takes s.now op) with
    out := { s.out with ops := s.out.ops ++
      [(p, { op := op, slot := (s.port p).nextSlot, gen := (s.port p).gen, issuedAt := s.now })] } }

/-- An op placed where both lists are empty, the queue has room and the link is UP is issued, and nothing else (R146, R147). -/
theorem placeOp_issues (op : Op) (s : State) (p : PlaneId) (h : IssuesAtOnce s p) : placeOp op s p = issuedTo op s p := by
  obtain ⟨hhost, hsweep, hroom, hup⟩ := h
  have hgrant : grantOp p (s.setPort p ((s.port p).enlist op)) = some (issuedTo op s p) := by
    unfold grantOp
    rw [if_pos (show ((s.setPort p ((s.port p).enlist op)).plane p).link = .up from hup), State.setPort_port_same,
      show (s.setPort p ((s.port p).enlist op)).sweepShare = s.sweepShare from rfl,
      show (s.setPort p ((s.port p).enlist op)).now = s.now from rfl, grantOne_enlist _ _ op _ hhost hsweep hroom]
    simp [issuedTo, Port.takes, Port.withIssued]
  have hlength : ((s.port p).enlist op).hostList.length + ((s.port p).enlist op).sweepList.length = 1 := by
    unfold Port.enlist
    cases op.owner <;> simp [hhost, hsweep]
  rw [placeOp_eq]
  unfold arbitrate
  rw [State.setPort_port_same, hlength]
  simp only [grantOps, hgrant]

theorem issuedTo_port (op : Op) (s : State) (p q : PlaneId) :
    (issuedTo op s p).port q = if q = p then (s.port p).takes s.now op else s.port q := State.setPort_port s p _ q

/-- An op placed on each plane of a set, where each issues it at once. -/
theorem placeOps_issues (op : Op) (g : PlaneSet) (s : State) (h : ∀ p, inSet g p = true → IssuesAtOnce s p) :
    placeOps op g s = { s with ports := (placeOps op g s).ports, out := (placeOps op g s).out } ∧
      ∀ p, (placeOps op g s).port p = if inSet g p = true then (s.port p).takes s.now op else s.port p := by
  refine ⟨?_, ?_⟩
  · obtain ⟨ports, out, he⟩ := placeOps_frame op g s
    rw [he]
  · have hlist : ∀ p ∈ planesOf g, IssuesAtOnce s p := fun p hp => h p ((mem_planesOf g p).mp hp)
    have hnodup := planesOf_nodup g
    simp only [← mem_planesOf]
    unfold placeOps
    generalize planesOf g = l at hlist hnodup
    clear h
    induction l generalizing s with
    | nil => exact fun p => by simp
    | cons q l ih =>
      obtain ⟨hq, hl⟩ := List.nodup_cons.mp hnodup
      have hne : ∀ p ∈ l, p ≠ q := fun p hp he => hq (he ▸ hp)
      have hrest : ∀ p ∈ l, IssuesAtOnce (issuedTo op s q) p := fun p hp => by
        unfold IssuesAtOnce
        rw [issuedTo_port, if_neg (hne p hp)]
        exact hlist p (List.mem_cons_of_mem _ hp)
      intro p
      rw [List.foldl_cons, placeOp_issues op s q (hlist q List.mem_cons_self), ih (issuedTo op s q) hrest hl p, issuedTo_port]
      by_cases hp : p = q
      · subst hp
        simp [hq]
      · simp only [List.mem_cons, hp, false_or, if_false]
        rfl

end Sys2Proof.Machine
end

section
/-! PROOFS. The host channel: what is answered at arrival or acceptance, and responses taken. -/

namespace Sys2Proof.Machine

/-! ## Arrival (R156 to R158) -/

theorem arrive_free (t : Tag) (kind : ReqKind) (line : Nat) (work : Work) (s : State) (hr : requestReady s = true) (hf : s.tag t = .free) :
    arrive t kind line work s = accept t kind line work (leaveAssembly s) := by
  unfold arrive
  rw [if_pos hr, hf]
  rfl

theorem arrive_live (t : Tag) (kind : ReqKind) (line : Nat) (work : Work) (s : State) (hr : requestReady s = true) (hf : s.tag t ≠ .free) :
    arrive t kind line work s = discardMessage t kind.code (leaveAssembly s) := by
  have hlive : (s.tag t).isLive = true := by
    cases ht : s.tag t with
    | free => exact absurd ht hf
    | inWork _ | queued _ _ => rfl
  unfold arrive
  rw [if_pos hr, if_pos hlive]

theorem arrive_not_ready (t : Tag) (kind : ReqKind) (line : Nat) (work : Work) (s : State) (hr : requestReady s = false) :
    arrive t kind line work s = s := by
  unfold arrive
  rw [if_neg (by simp [hr])]

theorem exec_read (t : Tag) (line : LineWord) (s : State) : exec (.read t line) s = .next (arrive t .read line.toNat (.read {}) s.quiet) := rfl

theorem exec_write (t : Tag) (line : LineWord) (mask : ByteMask) (data : LineData) (s : State) :
    exec (.write t line mask (.whole data)) s = .next (arrive t .write line.toNat (.write { mask := mask, data := data }) s.quiet) := rfl

theorem exec_unknownKindDiscard (kind : Byte) (t : Tag) (s : State) (h : namesKind kind = false) :
    exec (.unknownKindDiscard kind t) s = .next (if requestReady s then discardMessage t kind (leaveAssembly s.quiet) else s.quiet) :=
  if_neg (by simp [h])

/-- Settles O37, by whether the request path is ready. -/
theorem protocolDiscards : Obligations.ProtocolDiscards := by
  intro kind t line mask data s discarded
  refine ⟨fun hr => ⟨fun hk => ?_, fun hf => ⟨?_, ?_⟩⟩, fun hr => ⟨fun hk => ?_, ?_, ?_⟩⟩
  · rw [exec_unknownKindDiscard kind t s hk, if_pos hr]
    rfl
  · rw [exec_read, arrive_live t .read _ _ s.quiet hr hf]
    rfl
  · rw [exec_write, arrive_live t .write _ _ s.quiet hr hf]
    rfl
  · rw [exec_unknownKindDiscard kind t s hk, if_neg (by simp [hr])]
    rfl
  · rw [exec_read, arrive_not_ready t .read _ _ s.quiet hr]
    rfl
  · rw [exec_write, arrive_not_ready t .write _ _ s.quiet hr]
    rfl

/-! ## Acceptance (R158) -/

/-- The request as accepted, with the attributes of its line (R42). -/
def acceptedRequest (s : State) (kind : ReqKind) (line : Nat) (work : Work) : Request :=
  { kind := kind, line := line, copied := some (lookupRegion s line), work := some work }

section
variable (t : Tag) (kind : ReqKind) (line : Nat) (work : Work) (s : State)

/-- A response produced for a request just entered in the tag table. -/
theorem produce_entered (r : Request) (st : Status) (d : LineData) : produce t st d (s.setTag t (.inWork r)) =
    { s.setTag t (.queued (r.answered st) st) with
      responses := s.responses ++ [{ kind := r.kind, tag := t, status := st, data := d }] } := by
  rw [produce_live st d (State.setTag_tag_same s t _), State.setTag_setTag]
  rfl

theorem accept_outOfRange (h : planeLines s ≤ line) : accept t kind line work s =
    { s.setTag t (.queued { kind := kind, line := line, copied := none, work := none } .outOfRange) with
      responses := s.responses ++ [{ kind := kind, tag := t, status := .outOfRange, data := 0 }] } := by
  unfold accept
  dsimp only
  rw [if_pos h, produce_entered]
  rfl

theorem accept_notReady (h : line < planeLines s) (hs : s.service = .halted) : accept t kind line work s =
    { s.setTag t (.queued { kind := kind, line := line, copied := none, work := none } .notReady) with
      responses := s.responses ++ [{ kind := kind, tag := t, status := .notReady, data := 0 }] } := by
  unfold accept
  dsimp only
  rw [if_neg (Nat.not_le.mpr h), if_pos hs, produce_entered]
  rfl

theorem accept_protected (h : LineServed s line) (hp : (lookupRegion s line).attrs.protect = true) :
    accept t .write line work s = postRecord { kind := .writeRefused, origin := .host t (lookupRegion s line).index, line := some line
                                               planes := 0, outcome := .refused }
      { s.setTag t (.queued { kind := .write, line := line, copied := some (lookupRegion s line), work := none } .writeRefused) with
        responses := s.responses ++ [{ kind := .write, tag := t, status := .writeRefused, data := 0 }] } := by
  unfold accept
  dsimp only
  rw [if_neg (Nat.not_le.mpr h.1), if_neg (by rw [h.2]; exact nofun), if_pos ⟨rfl, hp⟩]
  unfold refuseProtected
  rw [produce_entered]
  rfl

theorem accept_served (h : LineServed s line) (hp : kind = .write → (lookupRegion s line).attrs.protect = false) :
    accept t kind line work s = claimStep t (acceptedRequest s kind line work) s := by
  have hprotect : ¬(kind = .write ∧ (lookupRegion s line).attrs.protect = true) := fun ⟨hk, hq⟩ => by
    rw [hp hk] at hq
    cases hq
  unfold accept
  dsimp only
  rw [if_neg (Nat.not_le.mpr h.1), if_neg (by rw [h.2]; exact nofun)]
  exact if_neg hprotect

end

/-- Settles O35, by the check that fails. -/
theorem answeredAtAcceptance : Obligations.AnsweredAtAcceptance := by
  intro t line mask data s hr hf at_
  simp only [exec_read, exec_write, arrive_free t _ _ _ s.quiet hr hf]
  refine ⟨fun h => ⟨?_, ?_⟩, fun h hs => ⟨?_, ?_⟩, fun h hp => ?_⟩
  · rw [accept_outOfRange t .read _ _ (leaveAssembly s.quiet) h]; rfl
  · rw [accept_outOfRange t .write _ _ (leaveAssembly s.quiet) h]; rfl
  · rw [accept_notReady t .read _ _ (leaveAssembly s.quiet) h hs]; rfl
  · rw [accept_notReady t .write _ _ (leaveAssembly s.quiet) h hs]; rfl
  · rw [accept_protected t _ _ (leaveAssembly s.quiet) h hp]; rfl

/-! ## Responses taken (R155, R161) -/

theorem freeTag_released (t : Tag) (r : Request) (s : State) (hr : (s.tag t).request = some r)
    (h : r.work = none ∨ (s.position t).kept = none ∧ holdsLine s (.host t) = false) : freeTag t s = s.setTag t .free := by
  have hnot : stillHolds s t r = false := by
    unfold stillHolds
    rcases h with h | ⟨-, h⟩ <;> simp [h]
  unfold freeTag
  rw [hr]
  dsimp only
  rw [hnot]
  rfl

theorem freeTag_holding (t : Tag) (r : Request) (s : State) (hr : (s.tag t).request = some r) (hp : (s.position t).kept = none)
    (hw : r.work ≠ none) (hh : holdsLine s (.host t) = true) :
    freeTag t s = (s.setPosition t { s.position t with kept := some r }).setTag t .free := by
  have hholds : stillHolds s t r = true := by
    unfold stillHolds
    simp [hp, hh, Option.isSome_iff_ne_none.mpr hw]
  unfold freeTag
  rw [hr]
  dsimp only
  rw [if_pos hholds]

theorem takeHead_taken (s : State) (x : Response) (rest : List Response) (h : s.responses = x :: rest) (hr : requestReady s = true) :
    takeHead s = freeTag x.tag { s with responses := rest, out := { s.out with response := some x } } := by
  unfold takeHead
  rw [h]
  exact if_pos hr

/-- Settles O43, by whether a response is offered and by who holds the position. -/
theorem responseTaken : Obligations.ResponseTaken := by
  intro s
  refine ⟨fun h => congrArg Host.Outcome.next ?none, fun x rest r st hx hr ht => ?some⟩
  case none =>
    rcases takeHead_cases s.quiet with he | ⟨x, rest, hx, hr, -⟩
    · exact he
    · rcases h with h | h
      · exact absurd (hx.symm.trans h) (List.cons_ne_nil _ _)
      · exact absurd (hr.symm.trans h) (by decide)
  case some =>
    have hrun : exec .responseTaken s = .next (freeTag x.tag { s with responses := rest, out := { response := some x } }) :=
      congrArg Host.Outcome.next (takeHead_taken s.quiet x rest hx hr)
    have hreq : (s.tag x.tag).request = some r := by rw [ht]; rfl
    intro taken
    refine ⟨fun h => hrun.trans (congrArg Host.Outcome.next ?released), fun hp hw hh => hrun.trans (congrArg Host.Outcome.next ?holding)⟩
    case released => exact freeTag_released x.tag r { s with responses := rest, out := { response := some x } } hreq h
    case holding => exact freeTag_holding x.tag r { s with responses := rest, out := { response := some x } } hreq hp hw hh

end Sys2Proof.Machine
end

section
/-! PROOFS. A request's claim and its grant: answered at once, its ops issued at once, or waiting. -/

namespace Sys2Proof.Machine

/-! ## One act after another -/

theorem settleActs_start_read {s : State} {t : Tag} {r : Request} {x : ReadRec} (as : List Act) (hr : requestAt s t = some r)
    (hw : r.work = some (.read x)) : settleActs (.start (.host t) :: as) s =
      settleActs ((startRead t r x s).2 ++ as) (startRead t r x s).1 := by
  have hperform : perform (.start (.host t)) s = startRead t r x s := by
    show startWork (.host t) s = _
    unfold startWork
    simp only [hr, hw]
  rw [settleActs_cons, hperform]

theorem settleActs_start_write {s : State} {t : Tag} {r : Request} {x : WriteRec} (as : List Act) (hr : requestAt s t = some r)
    (hw : r.work = some (.write x)) : settleActs (.start (.host t) :: as) s =
      settleActs ((startWrite t r x s).2 ++ as) (startWrite t r x s).1 := by
  have hperform : perform (.start (.host t)) s = startWrite t r x s := by
    show startWork (.host t) s = _
    unfold startWork
    simp only [hr, hw]
  rw [settleActs_cons, hperform]

/-- A release that grants nothing frees its position, which holds no claim back (R25, R35). -/
theorem settleActs_release {s : State} {t : Tag} {l : List LockEntry} (hl : lockRelease (.host t) s.locks = (l, []))
    (hb : (s.position t).heldBack = none) : settleActs [.release (.host t)] s =
      { s.setPosition t { kept := none, heldBack := none } with locks := l } := by
  have hperform : perform (.release (.host t)) s =
      ({ s.setPosition t { kept := none, heldBack := none } with locks := l }, [.placeHeld t]) := by
    show releaseLine (.host t) s = _
    unfold releaseLine freePosition
    rw [hl]
    simp only [State.position, Fin.getElem_fin] at hb
    simp [State.setPosition, State.position, heldActs, hb]
  have hheld : ∀ u : State, (u.position t).heldBack = none → perform (.placeHeld t) u = (u, []) := fun u hu => by
    rcases placeHeldBack_cases t u with h | ⟨c, -, hc, -⟩
    · exact h
    · rw [hu] at hc; cases hc
  rw [settleActs_cons, hperform]
  dsimp only
  rw [List.append_nil, settleActs_cons, hheld _ (by simp [State.setPosition, State.position])]
  exact settleActs_nil _

theorem settleActs_place_granted {s : State} {pos : Claimant} {kind : ClaimKind} {line : Nat} {l : List LockEntry}
    (h : lockPlace { pos := pos, kind := kind } line s.locks = (l, true)) :
    settleActs [.place pos kind line] s = settleActs [.start pos] { s with locks := l } := by
  have hperform : perform (.place pos kind line) s = ({ s with locks := l }, [.start pos]) := by
    show placeClaim pos kind line s = _
    unfold placeClaim
    rw [h]
    rfl
  rw [settleActs_cons, hperform]
  rfl

theorem settleActs_place_waiting {s : State} {pos : Claimant} {kind : ClaimKind} {line : Nat} {l : List LockEntry} (as : List Act)
    (h : lockPlace { pos := pos, kind := kind } line s.locks = (l, false)) :
    settleActs (.place pos kind line :: as) s = settleActs as { s with locks := l } := by
  have hperform : perform (.place pos kind line) s = ({ s with locks := l }, []) := by
    show placeClaim pos kind line s = _
    unfold placeClaim
    rw [h]
    rfl
  rw [settleActs_cons, hperform]
  rfl

/-! ## The claim of an accepted request -/

/-- The state in which a request is in work, with this lock table. -/
def inWorkWith (t : Tag) (r : Request) (locks : List LockEntry) (s : State) : State :=
  { s.setTag t (.inWork r) with requestAssembly := [], out := {}, locks := locks }

section
variable {s : State} {t : Tag} {line : LineWord}

theorem exec_read_claimed (hr : requestReady s = true) (hf : s.tag t = .free) (hl : LineServed s line.toNat)
    (hp : (s.position t).kept = none) : exec (.read t line) s =
      .next (settleActs [.place (.host t) .hostRead line.toNat] (inWorkWith t (acceptedRequest s .read line.toNat (.read {})) s.locks s)) := by
  rw [exec_read, arrive_free t _ _ _ s.quiet hr hf, accept_served t .read _ _ (leaveAssembly s.quiet) hl nofun]
  unfold claimStep
  simp only [State.setTag_position, show ((leaveAssembly s.quiet).position t).kept = none from hp]
  rfl

theorem exec_write_claimed (mask : ByteMask) (data : LineData) (hr : requestReady s = true) (hf : s.tag t = .free)
    (hl : LineServed s line.toNat) (hp : (s.position t).kept = none) (ha : (lookupRegion s line.toNat).attrs.protect = false) :
    exec (.write t line mask (.whole data)) s = .next (settleActs [.place (.host t) .hostWrite line.toNat] (inWorkWith t
      (acceptedRequest s .write line.toNat (.write { mask := mask, data := data })) s.locks s)) := by
  rw [exec_write, arrive_free t _ _ _ s.quiet hr hf, accept_served t .write _ _ (leaveAssembly s.quiet) hl fun _ => ha]
  unfold claimStep
  simp only [State.setTag_position, show ((leaveAssembly s.quiet).position t).kept = none from hp]
  rfl

theorem exec_read_granted {locks : List LockEntry} (hr : requestReady s = true) (hf : s.tag t = .free) (hl : LineServed s line.toNat)
    (hp : (s.position t).kept = none) (h : lockPlace { pos := .host t, kind := .hostRead } line.toNat s.locks = (locks, true)) :
    exec (.read t line) s =
      .next (settleActs [.start (.host t)] (inWorkWith t (acceptedRequest s .read line.toNat (.read {})) locks s)) := by
  rw [exec_read_claimed hr hf hl hp, settleActs_place_granted (s := inWorkWith t _ s.locks s) h]
  rfl

theorem exec_read_waits {locks : List LockEntry} (hr : requestReady s = true) (hf : s.tag t = .free) (hl : LineServed s line.toNat)
    (hp : (s.position t).kept = none) (h : lockPlace { pos := .host t, kind := .hostRead } line.toNat s.locks = (locks, false)) :
    exec (.read t line) s = .next (inWorkWith t (acceptedRequest s .read line.toNat (.read {})) locks s) := by
  rw [exec_read_claimed hr hf hl hp, settleActs_place_waiting (s := inWorkWith t _ s.locks s) [] h, settleActs_nil]
  rfl

theorem exec_write_granted {locks : List LockEntry} (mask : ByteMask) (data : LineData) (hr : requestReady s = true) (hf : s.tag t = .free)
    (hl : LineServed s line.toNat) (hp : (s.position t).kept = none) (ha : (lookupRegion s line.toNat).attrs.protect = false)
    (h : lockPlace { pos := .host t, kind := .hostWrite } line.toNat s.locks = (locks, true)) :
    exec (.write t line mask (.whole data)) s = .next (settleActs [.start (.host t)] (inWorkWith t
      (acceptedRequest s .write line.toNat (.write { mask := mask, data := data })) locks s)) := by
  rw [exec_write_claimed mask data hr hf hl hp ha, settleActs_place_granted (s := inWorkWith t _ s.locks s) h]
  rfl

theorem exec_write_waits {locks : List LockEntry} (mask : ByteMask) (data : LineData) (hr : requestReady s = true) (hf : s.tag t = .free)
    (hl : LineServed s line.toNat) (hp : (s.position t).kept = none) (ha : (lookupRegion s line.toNat).attrs.protect = false)
    (h : lockPlace { pos := .host t, kind := .hostWrite } line.toNat s.locks = (locks, false)) :
    exec (.write t line mask (.whole data)) s =
      .next (inWorkWith t (acceptedRequest s .write line.toNat (.write { mask := mask, data := data })) locks s) := by
  rw [exec_write_claimed mask data hr hf hl hp ha, settleActs_place_waiting (s := inWorkWith t _ s.locks s) [] h, settleActs_nil]
  rfl

end

/-! ## What a grant does -/

section
variable {s : State} {t : Tag} {r : Request} {x : ReadRec} {w : WriteRec}

theorem startRead_suspect (h : ∃ e ∈ s.suspects, e.line = r.line) :
    startRead t r x s = (produce t .poison 0 s, [.release (.host t)]) := by
  unfold startRead
  rw [if_pos ((isSuspect_iff s r.line).mpr h)]

theorem not_isSuspect (h : ∀ e ∈ s.suspects, e.line ≠ r.line) : ¬isSuspect s r.line = true := fun hs => by
  obtain ⟨e, he, hl⟩ := (isSuspect_iff s r.line).mp hs
  exact h e he hl

theorem startRead_noPlane (h : ∀ e ∈ s.suspects, e.line ≠ r.line) (ho : onlinePlanes s = 0) :
    startRead t r x s = (produce t .noPlane 0 (setRequest t (r.withRead { x with readSet := 0 }) s), [.release (.host t)]) := by
  unfold startRead
  rw [if_neg (not_isSuspect h)]
  simp only [ho]
  rfl

theorem startRead_single {p : PlaneId} (h : ∀ e ∈ s.suspects, e.line ≠ r.line) (ho : onlinePlanes s ≠ 0) (hm : r.attrs.readMode = .single)
    (hp : firstPlane s r.attrs.readSelect (onlinePlanes s) = some p) :
    startRead t r x s = (askPlane t r { x with readSet := onlinePlanes s } p (rotateTo r.attrs.readSelect p s), []) := by
  unfold startRead
  rw [if_neg (not_isSuspect h)]
  dsimp only
  rw [if_neg ho, hm]
  dsimp only
  rw [hp]

theorem startRead_compare (h : ∀ e ∈ s.suspects, e.line ≠ r.line) (ho : onlinePlanes s ≠ 0) (hm : r.attrs.readMode = .compare) :
    startRead t r x s = (placeOps { owner := .host t, line := r.line, body := .read } (onlinePlanes s)
      (setRequest t (r.withRead { x with readSet := onlinePlanes s, tried := onlinePlanes s, outstanding := onlinePlanes s }) s), []) := by
  unfold startRead
  rw [if_neg (not_isSuspect h)]
  dsimp only
  rw [if_neg ho, hm]

theorem startWrite_noPlane (h : writeSet s r.line = 0) : startWrite t r w s =
    (produce t .noPlane 0 (setRequest t (r.withWrite { w with writeSet := 0 }) s), [.release (.host t)]) := by
  unfold startWrite
  dsimp only
  rw [if_pos h, h]

theorem startWrite_empty (h : writeSet s r.line ≠ 0) (hm : w.mask = 0) : startWrite t r w s =
    (produce t .ok 0 (setRequest t (r.withWrite { w with writeSet := writeSet s r.line }) s), [.release (.host t)]) := by
  unfold startWrite
  dsimp only
  rw [if_neg h, if_pos hm]

theorem startWrite_issues (h : writeSet s r.line ≠ 0) (hm : w.mask ≠ 0) : startWrite t r w s =
    (placeOps { owner := .host t, line := r.line, body := .write w.mask w.data } (writeSet s r.line)
      (setRequest t (r.withWrite { w with writeSet := writeSet s r.line, outstanding := writeSet s r.line }) s), []) := by
  unfold startWrite
  dsimp only
  rw [if_neg h, if_neg hm]

end

/-! ## A request answered at its grant -/

/-- A live request answered, whose line is released with no claim waiting (R27, R28). -/
theorem settleActs_answered {u : State} {t : Tag} {r : Request} {l : List LockEntry} (st : Status) (d : LineData)
    (hp : u.position t = { kept := none, heldBack := none }) (ht : u.tag t = .inWork r)
    (hl : lockRelease (.host t) u.locks = (l, [])) : settleActs [.release (.host t)] (produce t st d u) =
      { u.setTag t (.queued (r.answered st) st) with
        responses := u.responses ++ [{ kind := r.kind, tag := t, status := st, data := d }], locks := l } := by
  rw [produce_live st d ht]
  generalize hv : ({ u.setTag t (.queued (r.answered st) st) with
    responses := u.responses ++ [{ kind := r.kind, tag := t, status := st, data := d }] } : State) = v
  have hpos : v.position t = { kept := none, heldBack := none } := by rw [← hv]; exact hp
  rw [settleActs_release (l := l) (by rw [← hv]; exact hl) (by rw [hpos]), State.setPosition_self v t _ hpos, ← hv]

/-- The state in which the request of a tag has been answered without a copy. -/
def answeredWith (t : Tag) (r : Request) (st : Status) (s : State) : State :=
  { s.setTag t (.queued r st) with
    requestAssembly := [], out := {}, responses := s.responses ++ [{ kind := r.kind, tag := t, status := st, data := 0 }] }

section
variable {s : State} {t : Tag} {r r' : Request} {locks : List LockEntry}

theorem inWorkWith_tag : (inWorkWith t r locks s).tag t = .inWork r := State.setTag_tag_same s t _

theorem requestAt_inWorkWith (hp : s.position t = { kept := none, heldBack := none }) : requestAt (inWorkWith t r locks s) t = some r :=
  requestAt_live (by rw [show (inWorkWith t r locks s).position t = s.position t from rfl, hp]) inWorkWith_tag

theorem setRequest_inWorkWith (hp : s.position t = { kept := none, heldBack := none }) :
    setRequest t r' (inWorkWith t r locks s) = inWorkWith t r' locks s := by
  rw [setRequest_live (by rw [show (inWorkWith t r locks s).position t = s.position t from rfl, hp]) inWorkWith_tag]
  simp [inWorkWith, State.setTag]

/-- A claim granted at once whose grant answers the request and releases the line (R28, R52, R66, R67). -/
theorem settleActs_inWorkWith_answered (st : Status) (hp : s.position t = { kept := none, heldBack := none })
    (hrel : lockRelease (.host t) locks = (s.locks, [])) :
    settleActs [.release (.host t)] (produce t st 0 (inWorkWith t r locks s)) = answeredWith t (r.answered st) st s := by
  rw [settleActs_answered (u := inWorkWith t r locks s) st 0 hp inWorkWith_tag hrel]
  simp [inWorkWith, answeredWith, State.setTag, Request.answered]

end

/-- A READ granted on a suspect line is answered POISON and releases (R66). -/
theorem settleActs_start_poison {s : State} {t : Tag} {line : Nat} {locks : List LockEntry} (hp : s.position t = { kept := none, heldBack := none })
    (hrel : lockRelease (.host t) locks = (s.locks, [])) (h : ∃ e ∈ s.suspects, e.line = line) :
    settleActs [.start (.host t)] (inWorkWith t (acceptedRequest s .read line (.read {})) locks s) =
      answeredWith t (acceptedRequest s .read line (.read { response := some .poison })) .poison s := by
  rw [settleActs_start_read [] (requestAt_inWorkWith hp) rfl, startRead_suspect h]
  exact settleActs_inWorkWith_answered .poison hp hrel

/-- A READ granted with no plane ONLINE is answered NO_PLANE and releases (R67). -/
theorem settleActs_start_noPlane {s : State} {t : Tag} {line : Nat} {locks : List LockEntry} (hp : s.position t = { kept := none, heldBack := none })
    (hrel : lockRelease (.host t) locks = (s.locks, [])) (h : ∀ e ∈ s.suspects, e.line ≠ line) (ho : ∀ p, (s.plane p).state ≠ .online) :
    settleActs [.start (.host t)] (inWorkWith t (acceptedRequest s .read line (.read {})) locks s) =
      answeredWith t (acceptedRequest s .read line (.read { response := some .noPlane })) .noPlane s := by
  rw [settleActs_start_read [] (requestAt_inWorkWith hp) rfl, startRead_noPlane (s := inWorkWith t _ locks s)
    (r := acceptedRequest s .read line (.read {})) h ((onlinePlanes_eq_zero _).mpr ho)]
  dsimp only
  rw [setRequest_inWorkWith hp]
  exact settleActs_inWorkWith_answered .noPlane hp hrel

/-- Settles O38, by the grant's outcome. -/
theorem answeredAtGrant : Obligations.AnsweredAtGrant := by
  intro t line mask data s htag hline habsent done
  obtain ⟨hr, hf, hp, hh⟩ := htag
  have hrel : ∀ kind, lockRelease (.host t) (s.locks ++ [{ line := line.toNat, kind := some kind, holders := [.host t], waiting := [] }]) =
      (s.locks, []) := fun kind => by
    rw [lockRelease_alone (.host t) s.locks [] _ ((not_holds_iff s _).mp hh) rfl rfl, List.append_nil]
  have hread := exec_read_granted hr hf hline (by rw [hp]) (lockPlace_absent { pos := .host t, kind := .hostRead } _ s.locks habsent)
  have hwrite := fun m ha => exec_write_granted m data hr hf hline (by rw [hp]) ha
    (lockPlace_absent { pos := .host t, kind := .hostWrite } _ s.locks habsent)
  refine ⟨fun h => ?poison, fun h ho => ?noPlane, fun ha => ⟨fun hw => ?writeNoPlane, fun hw => ?emptyMask⟩⟩
  case poison => rw [hread, settleActs_start_poison hp (hrel _) h]; rfl
  case noPlane => rw [hread, settleActs_start_noPlane hp (hrel _) h ho]; rfl
  case writeNoPlane =>
    have hstart := startWrite_noPlane (t := t) (w := { mask := mask, data := data }) (s := inWorkWith t
      (acceptedRequest s .write line.toNat (.write { mask := mask, data := data }))
        (s.locks ++ [{ line := line.toNat, kind := some .hostWrite, holders := [.host t], waiting := [] }]) s)
      (r := acceptedRequest s .write line.toNat (.write { mask := mask, data := data })) hw
    rw [hwrite mask ha, settleActs_start_write [] (requestAt_inWorkWith hp) rfl, hstart]
    dsimp only
    rw [setRequest_inWorkWith hp]
    exact congrArg Host.Outcome.next (settleActs_inWorkWith_answered .noPlane hp (hrel _))
  case emptyMask =>
    have hstart := startWrite_empty (t := t) (w := { mask := 0, data := data }) (s := inWorkWith t
      (acceptedRequest s .write line.toNat (.write { mask := 0, data := data }))
        (s.locks ++ [{ line := line.toNat, kind := some .hostWrite, holders := [.host t], waiting := [] }]) s)
      (r := acceptedRequest s .write line.toNat (.write { mask := 0, data := data })) hw rfl
    rw [hwrite 0 ha, settleActs_start_write [] (requestAt_inWorkWith hp) rfl, hstart]
    dsimp only
    rw [setRequest_inWorkWith hp]
    exact congrArg Host.Outcome.next (settleActs_inWorkWith_answered .ok hp (hrel _))

/-! ## A request that asks its planes -/

/-- The read of a line for a host request. -/
abbrev readOp (t : Tag) (line : Nat) : Op := { owner := .host t, line := line, body := .read }

theorem planesOf_onePlane (p : PlaneId) : planesOf (onePlane p) = [p] := by revert p; decide

theorem placeOps_onePlane (op : Op) (p : PlaneId) (s : State) : placeOps op (onePlane p) s = placeOp op s p := by
  unfold placeOps
  rw [planesOf_onePlane]
  rfl

theorem addPlane_empty (p : PlaneId) : addPlane 0 p = onePlane p := by revert p; decide

theorem rotateTo_inWorkWith (select : ReadSelect) (p : PlaneId) (t : Tag) (r : Request) (locks : List LockEntry) (s : State) :
    rotateTo select p (inWorkWith t r locks s) = inWorkWith t r locks (rotateTo select p s) := by
  cases select <;> rfl

theorem rotateTo_eq (select : ReadSelect) (p : PlaneId) (s : State) :
    rotateTo select p s = { s with rotation := if select = .rotate then p else s.rotation } := by
  cases select <;> rfl

theorem onlinePlanes_ne_zero {s : State} {p : PlaneId} (h : (s.plane p).state = .online) : onlinePlanes s ≠ 0 := fun h0 =>
  (onlinePlanes_eq_zero s).mp h0 p h

section
variable {s : State} {t : Tag} {line : Nat} {locks : List LockEntry} {p : PlaneId}

/-- A SINGLE READ granted asks its first plane (R68 to R70). -/
theorem settleActs_start_single (hp : s.position t = { kept := none, heldBack := none }) (h : ∀ e ∈ s.suspects, e.line ≠ line)
    (hm : (lookupRegion s line).attrs.readMode = .single) (hon : (s.plane p).state = .online)
    (hfirst : firstPlane s (lookupRegion s line).attrs.readSelect (onlinePlanes s) = some p) :
    settleActs [.start (.host t)] (inWorkWith t (acceptedRequest s .read line (.read {})) locks s) =
      placeOps (readOp t line) (onePlane p) (inWorkWith t (acceptedRequest s .read line (.read
        { readSet := onlinePlanes s, tried := onePlane p, outstanding := onePlane p })) locks
          (rotateTo (lookupRegion s line).attrs.readSelect p s)) := by
  have hstart := startRead_single (t := t) (x := {}) (s := inWorkWith t (acceptedRequest s .read line (.read {})) locks s)
    (r := acceptedRequest s .read line (.read {})) h (onlinePlanes_ne_zero (p := p) hon) hm hfirst
  have hp' : (rotateTo (lookupRegion s line).attrs.readSelect p s).position t = { kept := none, heldBack := none } := by
    rw [rotateTo_eq]; exact hp
  rw [settleActs_start_read [] (requestAt_inWorkWith hp) rfl, hstart]
  dsimp only
  rw [List.append_nil, settleActs_nil, rotateTo_inWorkWith]
  unfold askPlane
  rw [show (acceptedRequest s .read line (.read {})).attrs = (lookupRegion s line).attrs from rfl, setRequest_inWorkWith hp',
    placeOps_onePlane]
  simp only [addPlane_empty]
  rfl

/-- A COMPARE READ granted asks every ONLINE plane (R75). -/
theorem settleActs_start_compare (hp : s.position t = { kept := none, heldBack := none }) (h : ∀ e ∈ s.suspects, e.line ≠ line)
    (hm : (lookupRegion s line).attrs.readMode = .compare) (hon : (s.plane p).state = .online) :
    settleActs [.start (.host t)] (inWorkWith t (acceptedRequest s .read line (.read {})) locks s) =
      placeOps (readOp t line) (onlinePlanes s) (inWorkWith t (acceptedRequest s .read line (.read
        { readSet := onlinePlanes s, tried := onlinePlanes s, outstanding := onlinePlanes s })) locks s) := by
  have hstart := startRead_compare (t := t) (x := {}) (s := inWorkWith t (acceptedRequest s .read line (.read {})) locks s)
    (r := acceptedRequest s .read line (.read {})) h (onlinePlanes_ne_zero (p := p) hon) hm
  rw [settleActs_start_read [] (requestAt_inWorkWith hp) rfl, hstart]
  dsimp only
  rw [List.append_nil, settleActs_nil, setRequest_inWorkWith hp]
  rfl

/-- A WRITE granted with a mask that is not empty asks its write set (R51 to R53). -/
theorem settleActs_start_write_issues (mask : ByteMask) (data : LineData) (hp : s.position t = { kept := none, heldBack := none })
    (hg : writeSet s line ≠ 0) (hm : mask ≠ 0) :
    settleActs [.start (.host t)] (inWorkWith t (acceptedRequest s .write line (.write { mask := mask, data := data })) locks s) =
      placeOps { owner := .host t, line := line, body := .write mask data } (writeSet s line) (inWorkWith t
        (acceptedRequest s .write line (.write { mask := mask, data := data, writeSet := writeSet s line, outstanding := writeSet s line }))
          locks s) := by
  have hstart := startWrite_issues (t := t) (w := { mask := mask, data := data })
    (s := inWorkWith t (acceptedRequest s .write line (.write { mask := mask, data := data })) locks s)
    (r := acceptedRequest s .write line (.write { mask := mask, data := data })) hg hm
  rw [settleActs_start_write [] (requestAt_inWorkWith hp) rfl, hstart]
  dsimp only
  rw [List.append_nil, settleActs_nil, setRequest_inWorkWith hp]
  rfl

end

/-- What stands after a request's ops have been issued at once. -/
theorem placeOps_inWorkWith (op : Op) (g : PlaneSet) (t : Tag) (r : Request) (locks : List LockEntry) (s : State)
    (h : ∀ p, inSet g p = true → IssuesAtOnce s p) :
    (∀ q, (placeOps op g (inWorkWith t r locks s)).port q = if inSet g q = true then (s.port q).takes s.now op else s.port q) ∧
      (placeOps op g (inWorkWith t r locks s)).tags = (s.setTag t (.inWork r)).tags ∧
      placeOps op g (inWorkWith t r locks s) = { s with
        ports := (placeOps op g (inWorkWith t r locks s)).ports, tags := (placeOps op g (inWorkWith t r locks s)).tags
        out := (placeOps op g (inWorkWith t r locks s)).out, requestAssembly := [], locks := locks } := by
  obtain ⟨hframe, hports⟩ := placeOps_issues op g (inWorkWith t r locks s) h
  generalize placeOps op g (inWorkWith t r locks s) = u at hframe hports
  have htags : u.tags = (s.setTag t (.inWork r)).tags := by rw [hframe]; rfl
  exact ⟨hports, htags, by rw [htags]; exact hframe⟩

/-- The first plane of a SINGLE READ by its read select (R68, R69). -/
theorem firstPlane_eq_some (s : State) (select : ReadSelect) (p : PlaneId) (hon : (s.plane p).state = .online)
    (hfixed : ∀ q, select = .fixed q →
      (s.plane q).state = .online ∧ p = q ∨ (s.plane q).state ≠ .online ∧ ∀ r, r < p → (s.plane r).state ≠ .online)
    (hrotate : select = .rotate → ∀ q : PlaneId, (s.plane q).state = .online → (p - (s.rotation + 1)).val ≤ (q - (s.rotation + 1)).val) :
    firstPlane s select (onlinePlanes s) = some p := by
  cases select with
  | fixed q =>
    unfold firstPlane
    dsimp only
    rcases hfixed q rfl with ⟨hq, rfl⟩ | ⟨hq, hlow⟩
    · rw [if_pos (by simp [hq])]
    · rw [if_neg (by simp [hq]), lowestPlane_eq_some]
      exact ⟨by simp [hon], fun r hr => by simpa using hlow r hr⟩
  | rotate =>
    refine (nextPlane_eq_some _ _ _).mpr ⟨by simp [hon], fun q hq => hrotate rfl q (by simpa using hq)⟩

/-- Settles O39: the one op of the first plane. -/
theorem singleReadIssues : Obligations.SingleReadIssues := by
  intro t line p s htag hline habsent hclean hm hon hi hfixed hrotate op
  obtain ⟨hr, hf, hp, -⟩ := htag
  rw [exec_read_granted hr hf hline (by rw [hp]) (lockPlace_absent { pos := .host t, kind := .hostRead } _ s.locks habsent),
    settleActs_start_single hp hclean hm hon (firstPlane_eq_some s _ p hon hfixed hrotate), rotateTo_eq, placeOps_onePlane]
  exact congrArg Host.Outcome.next (placeOp_issues _ (inWorkWith t _ _ { s with rotation := _ }) p hi)

/-- Settles O40: one read for each ONLINE plane. -/
theorem compareReadIssues : Obligations.CompareReadIssues := by
  intro t line s htag hline habsent hclean hm hsome hi
  obtain ⟨hr, hf, hp, -⟩ := htag
  obtain ⟨p, hon⟩ := hsome
  rw [exec_read_granted hr hf hline (by rw [hp]) (lockPlace_absent { pos := .host t, kind := .hostRead } _ s.locks habsent),
    settleActs_start_compare hp hclean hm hon]
  obtain ⟨hports, htags, hframe⟩ := placeOps_inWorkWith (readOp t line.toNat) (onlinePlanes s) t (acceptedRequest s .read line.toNat
    (.read { readSet := onlinePlanes s, tried := onlinePlanes s, outstanding := onlinePlanes s }))
    (s.locks ++ [{ line := line.toNat, kind := some .hostRead, holders := [.host t], waiting := [] }]) s
    fun q hq => hi q (by simpa using hq)
  refine ⟨_, rfl, fun q => (hports q).trans ?_, htags, hframe⟩
  simp only [inSet_onlinePlanes, beq_iff_eq]
  rfl

theorem inSet_writeSet (s : State) (line : Nat) (p : PlaneId) : inSet (writeSet s line) p = true ↔
    (s.plane p).state = .online ∨ (s.plane p).state = .syncing ∧ s.sweep.engine = .running ∧ ∃ j, s.sweep.job = some j ∧ line < j.cursor := by
  unfold writeSet cursorPassed
  cases hj : s.sweep.job <;> simp

/-- Settles O41: one write for each plane of the write set. -/
theorem writeIssues : Obligations.WriteIssues := by
  intro t line mask data s htag hline habsent ha hm reached hsome hi
  obtain ⟨hr, hf, hp, -⟩ := htag
  have hreached : ∀ p, inSet (writeSet s line.toNat) p = true ↔ reached p := inSet_writeSet s line.toNat
  have hg : writeSet s line.toNat ≠ 0 := fun h0 => by
    obtain ⟨p, hreach⟩ := hsome
    exact Bool.false_ne_true (((planeSet_eq_zero _).mp h0 p).symm.trans ((hreached p).mpr hreach))
  rw [exec_write_granted mask data hr hf hline (by rw [hp]) ha
    (lockPlace_absent { pos := .host t, kind := .hostWrite } _ s.locks habsent), settleActs_start_write_issues mask data hp hg hm]
  obtain ⟨hports, htags, hframe⟩ := placeOps_inWorkWith { owner := .host t, line := line.toNat, body := .write mask data }
    (writeSet s line.toNat) t (acceptedRequest s .write line.toNat (.write { mask := mask, data := data, writeSet := writeSet s line.toNat
                                                                             outstanding := writeSet s line.toNat }))
    (s.locks ++ [{ line := line.toNat, kind := some .hostWrite, holders := [.host t], waiting := [] }]) s
    fun q hq => hi q ((hreached q).mp hq)
  exact ⟨writeSet s line.toNat, hreached, _, rfl, hports, htags, hframe⟩

end Sys2Proof.Machine
end

section
/-! PROOFS. A request that waits: for its line, for its host position, or for its last transfer; and a READ that joins the readers of its
line. -/

namespace Sys2Proof.Machine

/-! ## An entry of the lock table by its line -/

theorem entry_unique {l : List LockEntry} (hn : (l.map LockEntry.line).Nodup) {x e : LockEntry} (hx : x ∈ l) (he : e ∈ l)
    (h : x.line = e.line) : x = e := List.inj_on_of_nodup_map hn hx he h

/-- The table with one line's entry changed. -/
def withEntry (line : Nat) (f : LockEntry → LockEntry) (l : List LockEntry) : List LockEntry := l.map fun x => if x.line = line then f x else x

theorem withEntry_congr {l : List LockEntry} (hn : (l.map LockEntry.line).Nodup) {e : LockEntry} (he : e ∈ l) {f g : LockEntry → LockEntry}
    (h : f e = g e) : withEntry e.line f l = withEntry e.line g l := by
  refine List.map_congr_left fun x hx => ?_
  split
  · next hline => rw [entry_unique hn hx he hline, h]
  · rfl

/-- The table around the entry of a line. -/
theorem withEntry_split {l : List LockEntry} (hn : (l.map LockEntry.line).Nodup) {e : LockEntry} (he : e ∈ l) (f : LockEntry → LockEntry) :
    ∃ a b, l = a ++ e :: b ∧ withEntry e.line f l = a ++ f e :: b := by
  obtain ⟨a, b, rfl⟩ := List.append_of_mem he
  have hother : ∀ x ∈ a ++ b, x.line ≠ e.line := fun x hx => by
    rw [List.map_append, List.map_cons] at hn
    obtain ⟨-, hb, hdisjoint⟩ := List.nodup_append.mp hn
    rcases List.mem_append.mp hx with hx | hx
    · exact hdisjoint x.line (List.mem_map_of_mem hx) e.line List.mem_cons_self
    · exact fun h => (List.nodup_cons.mp hb).1 (h ▸ List.mem_map_of_mem hx)
  have hkeep : ∀ m : List LockEntry, (∀ x ∈ m, x ∈ a ++ b) → (m.map fun x => if x.line = e.line then f x else x) = m := fun m hm =>
    (List.map_congr_left fun x hx => if_neg (hother x (hm x hx))).trans (List.map_id _)
  refine ⟨a, b, rfl, ?_⟩
  unfold withEntry
  rw [List.map_append, List.map_cons, if_pos rfl, hkeep a fun x hx => List.mem_append_left _ hx, hkeep b fun x hx => List.mem_append_right _ hx]

/-- A claim that does not join waits at the tail of its line's list (R24). -/
theorem lockPlace_waits {l : List LockEntry} (hn : (l.map LockEntry.line).Nodup) {e : LockEntry} (he : e ∈ l) (c : Claim)
    (h : joinsReaders e c = false) : lockPlace c e.line l = (withEntry e.line (fun x => { x with waiting := x.waiting ++ [c] }) l, false) := by
  rw [lockPlace_present c l e he hn, h]
  refine congrArg (·, false) (withEntry_congr hn he (f := fun x => x.arrive c) ?_)
  unfold LockEntry.arrive
  rw [h]
  rfl

/-- The table with one more holder of a line. -/
def joined (pos : Claimant) (line : Nat) (l : List LockEntry) : List LockEntry :=
  withEntry line (fun x => { x with holders := x.holders ++ [pos] }) l

section
variable {l : List LockEntry} {e : LockEntry} {line : Nat} {pos : Claimant}

/-- A READ joins the readers of its line (R24). -/
theorem lockPlace_joins (kind : ClaimKind) (hn : (l.map LockEntry.line).Nodup) (he : e ∈ l) (hline : e.line = line)
    (h : joinsReaders e { pos := pos, kind := kind } = true) :
    lockPlace { pos := pos, kind := kind } line l = (joined pos line l, true) := by
  subst hline
  rw [lockPlace_present _ l e he hn, h]
  refine congrArg (·, true) (withEntry_congr hn he (f := fun x => x.arrive { pos := pos, kind := kind }) ?_)
  unfold LockEntry.arrive
  rw [h]
  rfl

/-- A reader that joined and leaves again leaves the table as it was (R25). -/
theorem lockRelease_joined (hn : (l.map LockEntry.line).Nodup) (he : e ∈ l) (hline : e.line = line)
    (hp : ∀ x ∈ l, pos ∉ x.holders) (hh : e.holders ≠ []) : lockRelease pos (joined pos line l) = (l, []) := by
  subst hline
  obtain ⟨a, b, hl, hmap⟩ := withEntry_split hn he fun x => { x with holders := x.holders ++ [pos] }
  have hadvance : LockEntry.advance { e with holders := (e.holders ++ [pos]).erase pos } = (some e, []) := by
    rw [List.erase_append_right _ (hp e he), List.erase_cons_head, List.append_nil]
    unfold LockEntry.advance
    rw [if_neg (by simpa using hh)]
  unfold joined
  rw [hmap, lockRelease_first pos a b _ (fun x hx => hp x (hl ▸ List.mem_append_left _ hx)) (by simp)]
  dsimp only
  rw [hadvance, hl]
  rfl

end

/-! ## The statement -/

/-- A partly transferred WRITE is held in the assembly buffer (R152). -/
theorem exec_write_partly (t : Tag) (line : LineWord) (mask : ByteMask) (data : LineData) (held : Fin 5) (s : State)
    (hr : requestReady s = true) : exec (.write t line mask (.partly held data)) s =
      .next { s with requestAssembly := (writeTransfers t line mask data).take (held.val + 1), out := {} } :=
  congrArg Host.Outcome.next (if_pos hr)

/-- A claim is held back while a kept request holds the position (R35, R155). -/
theorem claimStep_held (t : Tag) (r k : Request) (s : State) (hk : (s.position t).kept = some k) : claimStep t r s =
    (s.setTag t (.inWork r)).setPosition t { kept := some k, heldBack := some { kind := r.kind.claim, line := r.line } } := by
  unfold claimStep
  simp only [State.setTag_position, hk]

/-- Settles O42, by what keeps the request waiting. -/
theorem requestWaits : Obligations.RequestWaits := by
  intro t line mask data s hr
  refine ⟨fun held => ⟨_, rfl, exec_write_partly t line mask data held s hr⟩, fun hf hl => ?_⟩
  intro r attrs inWork write queue
  refine ⟨fun e he hline hp hlocks => ?claims, fun k hk => ⟨?readHeld, fun ha => ?writeHeld⟩⟩
  case readHeld =>
    rw [exec_read, arrive_free t _ _ _ s.quiet hr hf, accept_served t .read _ _ (leaveAssembly s.quiet) hl nofun,
      claimStep_held t _ k (leaveAssembly s.quiet) hk]
    rfl
  case writeHeld =>
    rw [exec_write, arrive_free t _ _ _ s.quiet hr hf, accept_served t .write _ _ (leaveAssembly s.quiet) hl fun _ => ha,
      claimStep_held t _ k (leaveAssembly s.quiet) hk]
    rfl
  case claims =>
    obtain ⟨hn, hsound, -⟩ := hlocks
    obtain ⟨hholders, -⟩ := hsound e he
    have hkept : (s.position t).kept = none := by rw [hp]
    refine ⟨fun h => ?readWaits, fun ha => ?writeWaits, fun hk hw hh => ?joins⟩
    case readWaits =>
      have hnot : joinsReaders e { pos := .host t, kind := .hostRead } = false := by
        unfold joinsReaders
        rcases h with h | h <;> simp [h]
      rw [exec_read_waits hr hf hl hkept (hline ▸ lockPlace_waits hn he _ hnot)]
      rfl
    case writeWaits =>
      rw [exec_write_waits mask data hr hf hl hkept ha (hline ▸ lockPlace_waits hn he { pos := .host t, kind := .hostWrite } rfl)]
      rfl
    case joins =>
      have hjoins : joinsReaders e { pos := .host t, kind := .hostRead } = true := by simp [joinsReaders, hk, hw, hholders]
      have hread := exec_read_granted hr hf hl hkept (lockPlace_joins .hostRead hn he hline hjoins)
      have hrel := lockRelease_joined hn he hline ((not_holds_iff s _).mp hh) hholders
      intro answered
      refine ⟨fun h => ?poison, fun h => ⟨fun ho => ?noPlane, fun g p hon hi hmode => ?asks⟩⟩
      case poison => rw [hread, settleActs_start_poison hp hrel h]; rfl
      case noPlane => rw [hread, settleActs_start_noPlane hp hrel h ho]; rfl
      case asks =>
        rw [hread]
        rcases hmode with ⟨hm, hg⟩ | ⟨hm, rfl, hfixed, hrotate⟩
        · have hset : onlinePlanes s = g := planeSet_ext _ _ fun q => by
            rw [Bool.eq_iff_iff, hg q, inSet_onlinePlanes, beq_iff_eq]
          subst hset
          obtain ⟨hports, htags, hframe⟩ := placeOps_inWorkWith (readOp t line.toNat) (onlinePlanes s) t (acceptedRequest s .read line.toNat
            (.read { readSet := onlinePlanes s, tried := onlinePlanes s, outstanding := onlinePlanes s }))
            (joined (.host t) line.toNat s.locks) s hi
          have hrotation : (if attrs.readMode = .single ∧ attrs.readSelect = .rotate then p else s.rotation) = s.rotation :=
            if_neg fun h => by rw [hm] at h; cases h.1
          rw [settleActs_start_compare hp h hm hon, hrotation]
          exact ⟨_, rfl, hports, htags, hframe⟩
        · obtain ⟨hports, htags, hframe⟩ := placeOps_inWorkWith (readOp t line.toNat) (onePlane p) t (acceptedRequest s .read line.toNat
            (.read { readSet := onlinePlanes s, tried := onePlane p, outstanding := onePlane p }))
            (joined (.host t) line.toNat s.locks)
            { s with rotation := if attrs.readSelect = .rotate then p else s.rotation } hi
          have hrotation : (if attrs.readMode = .single ∧ attrs.readSelect = .rotate then p else s.rotation) =
              if attrs.readSelect = .rotate then p else s.rotation := by simp only [hm, true_and]
          rw [settleActs_start_single hp h hm hon (firstPlane_eq_some s _ p hon hfixed hrotate), rotateTo_eq, hrotation]
          exact ⟨_, rfl, hports, htags, hframe⟩

/-! ## Claims given as commands -/

/-- The entry of a line grants in its place (R25). -/
theorem lockGrant_split {a b : List LockEntry} {e : LockEntry} (h : ∀ x ∈ a, x.line ≠ e.line) :
    lockGrant e.line (a ++ e :: b) = (a ++ (e.advance.1.toList ++ b), e.advance.2) := by
  induction a with
  | nil => rw [List.nil_append, lockGrant, if_pos rfl]; rfl
  | cons x xs ih =>
    rw [List.cons_append, lockGrant, if_neg (h x List.mem_cons_self), ih fun y hy => h y (List.mem_cons_of_mem _ hy)]
    rfl

theorem filter_line_split {a b : List LockEntry} {e : LockEntry} (hn : ((a ++ e :: b).map LockEntry.line).Nodup) :
    (∀ x ∈ a, x.line ≠ e.line) ∧ (a ++ e :: b).filter (fun x => x.line != e.line) = a ++ b := by
  rw [List.map_append, List.map_cons] at hn
  obtain ⟨-, hb, hdisjoint⟩ := List.nodup_append.mp hn
  have ha : ∀ x ∈ a, x.line ≠ e.line := fun x hx => hdisjoint x.line (List.mem_map_of_mem hx) e.line List.mem_cons_self
  have hb' : ∀ x ∈ b, x.line ≠ e.line := fun x hx h => (List.nodup_cons.mp hb).1 (h ▸ List.mem_map_of_mem hx)
  refine ⟨ha, ?_⟩
  rw [List.filter_append, List.filter_cons, if_neg (by simp), List.filter_eq_self.mpr fun x hx => by simpa using ha x hx,
    List.filter_eq_self.mpr fun x hx => by simpa using hb' x hx]

/-- The end of an abort is not due where a slot is still in flight (R107). -/
theorem endAfterRelease_eq {s u : State} (h : noSlotInFlight u = noSlotInFlight s) : endAfterRelease s u = u := by
  unfold endAfterRelease
  split
  · rfl
  · next hs => exact endAbort_eq u fun _ _ _ => .inl (h.trans (by simpa using hs))

theorem answered_read {r : Request} {x : ReadRec} (st : Status) (h : r.work = some (.read x)) :
    r.answered st = { r with work := some (.read { x with response := some st }) } := by
  unfold Request.answered
  rw [h]
  rfl

/-- A slot that comes into flight is one more. -/
theorem length_slotsInFlight_setSlot (s : State) (k : SlotId) (w : SlotWork) (h : s.slot k = none) :
    (slotsInFlight (s.setSlot k (some w))).length = (slotsInFlight s).length + 1 := by
  obtain ⟨l, m, hlm⟩ := List.append_of_mem (mem_allSlots k)
  have hnodup : (l ++ k :: m).Nodup := hlm ▸ (by decide : allSlots.Nodup)
  obtain ⟨-, hm, hdisjoint⟩ := List.nodup_append.mp hnodup
  have hsame : ∀ n, n ≠ k → ((s.setSlot k (some w)).slot n).isSome = (s.slot n).isSome := fun n hn => by
    rw [State.setSlot_slot_other _ _ _ _ hn]
  have hl : l.filter (fun n => ((s.setSlot k (some w)).slot n).isSome) = l.filter fun n => (s.slot n).isSome :=
    List.filter_congr fun n hn => hsame n (hdisjoint n hn k List.mem_cons_self)
  have hm' : m.filter (fun n => ((s.setSlot k (some w)).slot n).isSome) = m.filter fun n => (s.slot n).isSome :=
    List.filter_congr fun n hn => hsame n fun he => (List.nodup_cons.mp hm).1 (he ▸ hn)
  unfold slotsInFlight
  rw [hlm, List.filter_append, List.filter_append, List.filter_cons, List.filter_cons, hl, hm', if_pos (by simp), if_neg (by simp [h])]
  simp only [List.length_append, List.length_cons]
  omega

theorem freeSlot_eq_some {s : State} {k : SlotId} (h : s.slot k = none) (hlow : ∀ m, m < k → s.slot m ≠ none) : freeSlot s = some k := by
  have hbusy : ∀ m, m < k → (s.slot m).isNone = false := fun m hm => by
    rw [Bool.eq_false_iff, ne_eq, Option.isNone_iff_eq_none]; exact hlow m hm
  have hfree : (s.slot k).isNone = true := by rw [h]; rfl
  unfold freeSlot
  have hk : k = 0 ∨ k = 1 ∨ k = 2 ∨ k = 3 := plane_cases k
  rcases hk with rfl | rfl | rfl | rfl
  · simp [allSlots, hfree]
  · simp [allSlots, hfree, hbusy 0 (by decide)]
  · simp [allSlots, hfree, hbusy 0 (by decide), hbusy 1 (by decide)]
  · simp [allSlots, hfree, hbusy 0 (by decide), hbusy 1 (by decide), hbusy 2 (by decide)]

/-- The engine places no claim where it is not RUNNING, has no line left, or its window is full (R92). -/
theorem settleActs_sweepPlace_idle {s : State} (as : List Act) (h : s.sweep.engine ≠ .running ∨
    ∀ j, s.sweep.job = some j → j.last < j.cursor ∨ j.window ≤ (slotsInFlight s).length) :
    settleActs (.sweepPlace :: as) s = settleActs as s := by
  have hperform : perform .sweepPlace s = (s, []) := by
    rcases placeNext_cases s with hc | ⟨j, k, he, hj, -, hc, hw, -⟩
    · exact hc
    · rcases h with h | h
      · exact absurd he h
      · have := h j hj
        omega
  rw [settleActs_cons, hperform]
  rfl

theorem exec_grant (line : LineWord) (s : State) : exec (.grant line) s = .next (endAfterRelease s.quiet
    (settleActs ((lockGrant line.toNat s.locks).2.map Act.start) { s.quiet with locks := (lockGrant line.toNat s.locks).1 })) := rfl

/-- Settles O56, by the row and by whether its step is due. -/
theorem claimSteps : Obligations.ClaimSteps := by
  intro t line r s
  refine ⟨fun e he hline hn => ?grant, fun h => ?heldNotDue, fun hp habsent hh htag hk hrl hw hclean ho => ?heldBack, fun he => ?stopped,
    fun j hj he => ⟨fun h => ?sweepNotDue, fun k e he' hc hwindow hslot hlow hline hn => ?sweep⟩⟩
  case grant =>
    obtain ⟨a, b, hab⟩ := List.append_of_mem he
    obtain ⟨ha, hfilter⟩ := filter_line_split (hab ▸ hn)
    have hgrant : lockGrant line.toNat s.locks = (a ++ (e.advance.1.toList ++ b), e.advance.2) := by
      rw [hab, ← hline]; exact lockGrant_split ha
    rw [exec_grant, hgrant]
    refine ⟨fun hholders => ?_, fun hholders hwait hh hp htag hk hrl hw hsuspect => ?_⟩
    · have hadvance : e.advance = (some e, []) := if_neg (by simpa using hholders)
      rw [hadvance]
      rw [List.map_nil, settleActs_nil, show a ++ ((some e).toList ++ b) = s.locks by rw [hab]; rfl]
      exact congrArg Host.Outcome.next (endAfterRelease_eq rfl)
    · have hadvance : e.advance = (some { e with kind := some .hostRead, holders := [.host t], waiting := [] }, [.host t]) := by
        simp [LockEntry.advance, hholders, hwait]
      rw [hadvance, List.map_cons, List.map_nil]
      generalize hu : ({ s.quiet with locks := a ++ ((some { e with kind := some .hostRead, holders := [.host t], waiting := [] }).toList ++ b) } : State) = u
      have hpos : u.position t = { kept := none, heldBack := none } := by rw [← hu]; exact hp
      have hinwork : u.tag t = .inWork r := by rw [← hu]; exact htag
      have hrel : lockRelease (.host t) u.locks = (a ++ b, []) := by
        rw [← hu]
        exact lockRelease_alone (.host t) a b _ (fun x hx => (not_holds_iff s _).mp hh x (hab ▸ List.mem_append_left _ hx)) rfl rfl
      have hsus : ∃ x ∈ u.suspects, x.line = r.line := by rw [← hu, hrl]; exact hsuspect
      rw [settleActs_start_read [] (requestAt_live (by rw [hpos]) hinwork) hw, startRead_suspect hsus]
      dsimp only
      rw [List.append_nil, settleActs_answered .poison 0 hpos hinwork hrel, answered_read .poison hw, ← hu,
        show s.locks.filter (fun x => x.line != line.toNat) = a ++ b by rw [← hfilter, hab, hline], ← hk]
      exact congrArg Host.Outcome.next (endAfterRelease_eq rfl)
  case heldNotDue =>
    have hperform : perform (.placeHeld t) s.quiet = (s.quiet, []) := by
      rcases placeHeldBack_cases t s.quiet with hc | ⟨c, hk, hc, -⟩
      · exact hc
      · rcases h with h | h
        · exact absurd hk h
        · exact absurd (hc.symm.trans h) (Option.some_ne_none _)
    show Host.Outcome.next (settleActs [.placeHeld t] s.quiet) = _
    rw [settleActs_cons, hperform]
    exact congrArg Host.Outcome.next (settleActs_nil _)
  case heldBack =>
    have hperform : perform (.placeHeld t) s.quiet =
        (s.quiet.setPosition t { kept := none, heldBack := none }, [.place (.host t) .hostRead line.toNat]) := by
      show placeHeldBack t s.quiet = _
      unfold placeHeldBack
      rw [show s.quiet.position t = _ from hp]
    have hplace := lockPlace_absent { pos := .host t, kind := .hostRead } line.toNat s.locks habsent
    show Host.Outcome.next (settleActs [.placeHeld t] s.quiet) = _
    rw [settleActs_cons, hperform]
    dsimp only
    rw [List.append_nil, settleActs_place_granted (s := s.quiet.setPosition t { kept := none, heldBack := none }) hplace]
    generalize hu : ({ s.quiet.setPosition t { kept := none, heldBack := none } with locks := _ } : State) = u
    have hpos : u.position t = { kept := none, heldBack := none } := by rw [← hu]; exact State.setPosition_position_same s.quiet t _
    have hinwork : u.tag t = .inWork r := by rw [← hu]; exact htag
    have hrel : lockRelease (.host t) u.locks = (s.locks, []) := by
      rw [← hu]
      refine (lockRelease_alone (.host t) s.locks [] _ ((not_holds_iff s _).mp hh) rfl rfl).trans ?_
      rw [List.append_nil]
    have hcl : ∀ x ∈ u.suspects, x.line ≠ r.line := by rw [← hu, hrl]; exact hclean
    have hnone : onlinePlanes u = 0 := (onlinePlanes_eq_zero u).mpr (by rw [← hu]; exact ho)
    rw [settleActs_start_read [] (requestAt_live (by rw [hpos]) hinwork) hw, startRead_noPlane hcl hnone]
    dsimp only
    rw [setRequest_live (by rw [hpos]) hinwork]
    generalize hv : u.setTag t _ = v
    have hposv : v.position t = { kept := none, heldBack := none } := by rw [← hv]; exact hpos
    have htagv : v.tag t = .inWork (r.withRead {}) := by rw [← hv]; exact State.setTag_tag_same u t _
    rw [List.append_nil, settleActs_answered (l := s.locks) .noPlane 0 hposv htagv (by rw [← hv]; exact hrel), ← hv, ← hu, ← hk]
    simp [State.setTag, State.setPosition, State.quiet, Request.withRead, Request.answered]
  case stopped =>
    show Host.Outcome.next (settleActs [.sweepPlace] s.quiet) = _
    rw [settleActs_sweepPlace_idle (s := s.quiet) [] (.inl he), settleActs_nil]
    rfl
  case sweepNotDue =>
    show Host.Outcome.next (settleActs [.sweepPlace] s.quiet) = _
    have hnot : ∀ j', s.sweep.job = some j' → j'.last < j'.cursor ∨ j'.window ≤ (slotsInFlight s).length := fun j' hj' => by
      rw [hj] at hj'
      cases hj'
      exact h
    rw [settleActs_sweepPlace_idle (s := s.quiet) [] (.inr hnot), settleActs_nil]
    rfl
  case sweep =>
    have hperform : perform .sweepPlace s.quiet = ((s.quiet.setSlot k (some { line := j.cursor })).setJob { j with cursor := j.cursor + 1 },
        [.place (.slot k) .sweep j.cursor, .sweepPlace]) := by
      show placeNext s.quiet = _
      unfold placeNext
      simp only [show s.quiet.sweep.engine = .running from he, show s.quiet.sweep.job = some j from hj,
        show freeSlot s.quiet = some k from freeSlot_eq_some hslot hlow]
      exact if_pos ⟨hc, show (slotsInFlight s).length < j.window by omega⟩
    have hplace := hline ▸ lockPlace_waits hn he' { pos := .slot k, kind := .sweep } rfl
    have hfull : ∀ j', some { j with cursor := j.cursor + 1 } = some j' → j'.last < j'.cursor ∨
        j'.window ≤ (slotsInFlight (s.setSlot k (some { line := j.cursor }))).length := by
      rintro j' ⟨⟩
      rw [length_slotsInFlight_setSlot s k _ hslot]
      exact .inr hwindow.ge
    show Host.Outcome.next (settleActs [.sweepPlace] s.quiet) = _
    rw [settleActs_cons, hperform]
    dsimp only
    rw [List.append_nil, settleActs_place_waiting (s := (s.quiet.setSlot k _).setJob _) _ hplace]
    generalize hu : ({ (s.quiet.setSlot k (some { line := j.cursor })).setJob { j with cursor := j.cursor + 1 } with locks := _ } : State) = u
    rw [settleActs_sweepPlace_idle [] (.inr (by rw [← hu]; exact hfull)), settleActs_nil, ← hu]
    rfl

end Sys2Proof.Machine
end

section
/-! PROOFS. The vote (R76, R77): what its four outcomes say of the copies. -/

namespace Sys2Proof.Machine

/-! ## Copies and planes -/

theorem inSet_copyPlanes (copies : List (PlaneId × LineData)) (p : PlaneId) :
    inSet (copyPlanes copies) p = true ↔ ∃ c ∈ copies, c.1 = p := by
  have hfold : ∀ (l : List (PlaneId × LineData)) (g : PlaneSet),
      inSet (l.foldl (fun g c => addPlane g c.1) g) p = true ↔ inSet g p = true ∨ ∃ c ∈ l, c.1 = p := by
    intro l
    induction l with
    | nil => intro g; simp
    | cons c l ih =>
      intro g
      rw [List.foldl_cons, ih, inSet_addPlane, Bool.or_eq_true, decide_eq_true_iff, List.exists_mem_cons_iff, or_assoc, eq_comm (a := p)]
  rw [copyPlanes, hfold, show (0 : PlaneSet) = 0#4 from rfl, inSet_zero]
  exact or_iff_right Bool.false_ne_true

theorem inSet_groupOf (copies : List (PlaneId × LineData)) (d : LineData) (p : PlaneId) :
    inSet (groupOf copies d) p = true ↔ ∃ c ∈ copies, c.1 = p ∧ c.2 = d := by
  rw [groupOf, inSet_copyPlanes]
  simp only [List.mem_filter, beq_iff_eq]
  exact ⟨fun ⟨c, ⟨hc, hd⟩, hp⟩ => ⟨c, hc, hp, hd⟩, fun ⟨c, hc, hp, hd⟩ => ⟨c, ⟨hc, hd⟩, hp⟩⟩

/-! ## Majorities -/

/-- More than half of the copies are `d` (R77). -/
abbrev IsMajority (copies : List (PlaneId × LineData)) (d : LineData) : Prop :=
  copies.length < 2 * (copies.filter fun c => c.2 == d).length

/-- Two groups share no copy. -/
theorem length_groups_le (copies : List (PlaneId × LineData)) {d d' : LineData} (h : d ≠ d') :
    (copies.filter fun c => c.2 == d).length + (copies.filter fun c => c.2 == d').length ≤ copies.length := by
  induction copies with
  | nil => exact Nat.le_refl _
  | cons c l ih =>
    rw [List.filter_cons, List.filter_cons, List.length_cons]
    by_cases hd : c.2 = d
    · rw [if_pos (beq_iff_eq.mpr hd), if_neg fun he => h (hd.symm.trans (beq_iff_eq.mp he)), List.length_cons]
      omega
    · rw [if_neg fun he => hd (beq_iff_eq.mp he)]
      split
      · rw [List.length_cons]; omega
      · omega

theorem IsMajority.unique {copies : List (PlaneId × LineData)} {d d' : LineData} (h : IsMajority copies d) (h' : IsMajority copies d') :
    d = d' := by
  by_contra hne
  have := length_groups_le copies hne
  unfold IsMajority at h h'
  omega

theorem IsMajority.exists_copy {copies : List (PlaneId × LineData)} {d : LineData} (h : IsMajority copies d) : ∃ c ∈ copies, c.2 = d := by
  have hpos : 0 < (copies.filter fun c => c.2 == d).length := by unfold IsMajority at h; omega
  obtain ⟨c, hc⟩ := List.exists_mem_of_length_pos hpos
  rw [List.mem_filter, beq_iff_eq] at hc
  exact ⟨c, hc.1, hc.2⟩

theorem majorityCopy_eq_some (copies : List (PlaneId × LineData)) (d : LineData) : majorityCopy copies = some d ↔ IsMajority copies d := by
  unfold majorityCopy
  constructor
  · intro h
    obtain ⟨c, hc, rfl⟩ := Option.map_eq_some_iff.mp h
    have hlt := List.find?_some hc
    exact decide_eq_true_iff.mp hlt
  · intro h
    obtain ⟨c, hc, hd⟩ := h.exists_copy
    cases hfind : copies.find? fun c => decide (copies.length < 2 * (copies.filter fun x => x.2 == c.2).length) with
    | none =>
      have hnot : ¬decide (copies.length < 2 * (copies.filter fun x => x.2 == c.2).length) = true := List.find?_eq_none.mp hfind c hc
      rw [hd] at hnot
      exact absurd (decide_eq_true_iff.mpr h) hnot
    | some x =>
      have hlt := List.find?_some hfind
      have hx : IsMajority copies x.2 := decide_eq_true_iff.mp hlt
      exact congrArg some (hx.unique h)

theorem majorityCopy_eq_none (copies : List (PlaneId × LineData)) : majorityCopy copies = none ↔ ∀ d, ¬IsMajority copies d := by
  refine ⟨fun h d hd => ?_, fun h => ?_⟩
  · rw [(majorityCopy_eq_some copies d).mpr hd] at h
    cases h
  · cases hm : majorityCopy copies with
    | none => rfl
    | some d => exact absurd ((majorityCopy_eq_some copies d).mp hm) (h d)

/-! ## The outcomes -/

/-- The planes of a divided vote that are not of its majority (R77). -/
def minorityOf (copies : List (PlaneId × LineData)) (d : LineData) : PlaneSet := lessPlanes (copyPlanes copies) (groupOf copies d)

theorem vote_agreed {copies : List (PlaneId × LineData)} (erred : PlaneSet) {d : LineData} (hne : copies ≠ []) (h : ∀ c ∈ copies, c.2 = d) :
    vote copies erred = .agreed d := by
  cases copies with
  | nil => exact absurd rfl hne
  | cons c l =>
    have hc : c.2 = d := h c List.mem_cons_self
    unfold vote
    dsimp only
    rw [hc]
    exact if_pos (List.all_eq_true.mpr fun x hx => beq_iff_eq.mpr (h x hx))

/-- A divided vote looks for a majority (R76, R77). -/
theorem vote_divided {copies : List (PlaneId × LineData)} (erred : PlaneSet) (h : ∃ a ∈ copies, ∃ b ∈ copies, a.2 ≠ b.2) :
    (∀ d, IsMajority copies d → vote copies erred = .majority d (minorityOf copies d)) ∧
      ((∀ d, ¬IsMajority copies d) → vote copies erred = .split) := by
  cases copies with
  | nil => obtain ⟨a, ha, -⟩ := h; cases ha
  | cons c l =>
    have hdivided : ¬((c :: l).all fun x => x.2 == c.2) = true := fun hall => by
      obtain ⟨a, ha, b, hb, hne⟩ := h
      have hall' := List.all_eq_true.mp hall
      exact hne ((beq_iff_eq.mp (hall' a ha)).trans (beq_iff_eq.mp (hall' b hb)).symm)
    refine ⟨fun d hd => ?_, fun hnone => ?_⟩
    · unfold vote
      dsimp only
      rw [if_neg hdivided, (majorityCopy_eq_some _ d).mpr hd]
      rfl
    · unfold vote
      dsimp only
      rw [if_neg hdivided, (majorityCopy_eq_none _).mpr hnone]

/-- The four cases of a vote. -/
inductive VoteCase (copies : List (PlaneId × LineData)) (erred : PlaneSet) : Prop
  | none (h : copies = []) (hv : vote copies erred = if erred = 0 then .nothing else .noGoodCopy)
  | agreed (d : LineData) (hne : copies ≠ []) (h : ∀ c ∈ copies, c.2 = d) (hv : vote copies erred = .agreed d)
  | majority (d : LineData) (h : ∃ a ∈ copies, ∃ b ∈ copies, a.2 ≠ b.2) (hd : IsMajority copies d)
      (hv : vote copies erred = .majority d (minorityOf copies d))
  | split (h : ∃ a ∈ copies, ∃ b ∈ copies, a.2 ≠ b.2) (hd : ∀ d, ¬IsMajority copies d) (hv : vote copies erred = .split)

theorem voteCase (copies : List (PlaneId × LineData)) (erred : PlaneSet) : VoteCase copies erred := by
  by_cases hdivided : ∃ a ∈ copies, ∃ b ∈ copies, a.2 ≠ b.2
  · by_cases hd : ∃ d, IsMajority copies d
    · obtain ⟨d, hd⟩ := hd
      exact .majority d hdivided hd ((vote_divided erred hdivided).1 d hd)
    · rw [not_exists] at hd
      exact .split hdivided hd ((vote_divided erred hdivided).2 hd)
  · push Not at hdivided
    cases copies with
    | nil => exact .none rfl rfl
    | cons c l =>
      have hall : ∀ x ∈ c :: l, x.2 = c.2 := fun x hx => hdivided x hx c List.mem_cons_self
      exact .agreed c.2 (List.cons_ne_nil _ _) hall (vote_agreed erred (List.cons_ne_nil _ _) hall)

theorem vote_none_ne (erred : PlaneSet) {v : Vote} (hn : v ≠ .nothing) (hg : v ≠ .noGoodCopy) :
    (if erred = 0 then Vote.nothing else .noGoodCopy) ≠ v := by
  split
  · exact hn.symm
  · exact hg.symm

theorem agreed_iff (copies : List (PlaneId × LineData)) (erred : PlaneSet) (d : LineData) :
    vote copies erred = .agreed d ↔ copies ≠ [] ∧ ∀ c ∈ copies, c.2 = d := by
  refine ⟨fun h => ?_, fun ⟨hne, h⟩ => vote_agreed erred hne h⟩
  cases voteCase copies erred with
  | none hc hv => exact absurd (hv.symm.trans h) (vote_none_ne erred nofun nofun)
  | agreed d' hne hall hv => cases hv.symm.trans h; exact ⟨hne, hall⟩
  | majority d' _ _ hv => cases hv.symm.trans h
  | split _ _ hv => cases hv.symm.trans h

/-- A majority's vote is a divided one (R77). -/
theorem majority_iff (copies : List (PlaneId × LineData)) (erred : PlaneSet) (d : LineData) (m : PlaneSet) :
    vote copies erred = .majority d m ↔ IsMajority copies d ∧ (∃ c ∈ copies, c.2 ≠ d) ∧ m = minorityOf copies d := by
  constructor
  · intro h
    cases voteCase copies erred with
    | none hc hv => exact absurd (hv.symm.trans h) (vote_none_ne erred nofun nofun)
    | agreed d' _ _ hv => cases hv.symm.trans h
    | split _ _ hv => cases hv.symm.trans h
    | majority d' hdivided hd hv =>
      cases hv.symm.trans h
      obtain ⟨a, ha, b, hb, hne⟩ := hdivided
      refine ⟨hd, ?_, rfl⟩
      by_cases had : a.2 = d
      · exact ⟨b, hb, fun hbd => hne (had.trans hbd.symm)⟩
      · exact ⟨a, ha, had⟩
  · rintro ⟨hd, ⟨c, hc, hne⟩, rfl⟩
    obtain ⟨x, hx, hxd⟩ := hd.exists_copy
    exact (vote_divided erred ⟨c, hc, x, hx, by rw [hxd]; exact hne⟩).1 d hd

theorem split_iff (copies : List (PlaneId × LineData)) (erred : PlaneSet) :
    vote copies erred = .split ↔ (∃ a ∈ copies, ∃ b ∈ copies, a.2 ≠ b.2) ∧ ∀ d, ¬IsMajority copies d := by
  refine ⟨fun h => ?_, fun ⟨hdivided, hd⟩ => (vote_divided erred hdivided).2 hd⟩
  cases voteCase copies erred with
  | none hc hv => exact absurd (hv.symm.trans h) (vote_none_ne erred nofun nofun)
  | agreed d' _ _ hv => cases hv.symm.trans h
  | majority d' _ _ hv => cases hv.symm.trans h
  | split hdivided hd _ => exact ⟨hdivided, hd⟩

/-- Where each plane returned one copy, the minority are the planes of another copy. -/
theorem inSet_minorityOf (copies : List (PlaneId × LineData)) (d : LineData) (hn : (copies.map Prod.fst).Nodup) (p : PlaneId) :
    inSet (minorityOf copies d) p = true ↔ ∃ c ∈ copies, c.1 = p ∧ c.2 ≠ d := by
  rw [minorityOf, inSet_lessPlanes, Bool.and_eq_true, Bool.not_eq_true', Bool.eq_false_iff, ne_eq, inSet_copyPlanes, inSet_groupOf]
  constructor
  · rintro ⟨⟨c, hc, hp⟩, hnot⟩
    exact ⟨c, hc, hp, fun hd => hnot ⟨c, hc, hp, hd⟩⟩
  · rintro ⟨c, hc, hp, hd⟩
    refine ⟨⟨c, hc, hp⟩, fun ⟨x, hx, hxp, hxd⟩ => hd ?_⟩
    rw [List.inj_on_of_nodup_map hn hc hx (hp.trans hxp.symm), hxd]

theorem IsMajority.perm {copies other : List (PlaneId × LineData)} (h : copies.Perm other) {d : LineData} (hd : IsMajority copies d) :
    IsMajority other d := by
  unfold IsMajority at *
  rwa [← h.length_eq, ← (h.filter _).length_eq]

theorem minorityOf_perm {copies other : List (PlaneId × LineData)} (h : copies.Perm other) (d : LineData) :
    minorityOf copies d = minorityOf other d := planeSet_ext _ _ fun p => by
  rw [Bool.eq_iff_iff]
  simp only [minorityOf, inSet_lessPlanes, Bool.and_eq_true, Bool.not_eq_true', Bool.eq_false_iff, ne_eq, inSet_copyPlanes,
    inSet_groupOf, h.mem_iff]

/-- Settles O58, from the four cases of a vote. -/
theorem voteRule : Obligations.VoteRule := by
  intro copies erred
  refine ⟨agreed_iff copies erred, fun d => ?majority, fun d m hv hn p => ?minority, ?split, fun h => by rw [h]; rfl, fun other h => ?order⟩
  case majority =>
    refine ⟨fun ⟨m, hm⟩ => ?_, fun ⟨hd, hne⟩ => ⟨_, (majority_iff copies erred d _).mpr ⟨hd, hne, rfl⟩⟩⟩
    obtain ⟨hd, hne, -⟩ := (majority_iff copies erred d m).mp hm
    exact ⟨hd, hne⟩
  case minority =>
    obtain ⟨-, -, rfl⟩ := (majority_iff copies erred d m).mp hv
    exact inSet_minorityOf copies d hn p
  case split =>
    rw [split_iff]
    simp only [IsMajority, Nat.not_lt]
  case order =>
    cases voteCase copies erred with
    | none hc hv => rw [hc] at h ⊢; rw [h.nil_eq]
    | agreed d hne hall hv =>
      rw [hv]
      exact vote_agreed erred (fun ho => hne (by rw [ho] at h; exact h.eq_nil)) fun c hc => hall c (h.mem_iff.mpr hc)
    | majority d hdivided hd hv =>
      obtain ⟨hd, ⟨c, hc, hne⟩, -⟩ := (majority_iff copies erred d _).mp hv
      rw [hv, minorityOf_perm h]
      exact (majority_iff other erred d _).mpr ⟨hd.perm h, ⟨c, h.mem_iff.mp hc, hne⟩, rfl⟩
    | split hdivided hd hv =>
      obtain ⟨a, ha, b, hb, hne⟩ := hdivided
      rw [hv]
      exact (split_iff other erred).mpr ⟨⟨a, h.mem_iff.mp ha, b, h.mem_iff.mp hb, hne⟩, fun d hd' => hd d (hd'.perm h.symm)⟩

end Sys2Proof.Machine
end

section
/-! PROOFS. The statement about the failure of a plane fails: the job whose targets an event's end brings ONLINE need not be RUNNING. -/

namespace Sys2Proof.Machine

/-! ## The counterexample -/

/-- A read of line 0 that stands in a queue since time 0, of a tag that is FREE. -/
def staleRead (slot : BitVec 4) : QueuedOp :=
  { op := { owner := .host 0, line := 0, body := .read }, slot := slot, gen := 0, issuedAt := 0 }

/-- A REBUILD of plane 1, ABORTING although its outcome is COMPLETE. Every other hypothesis of the statement is met: `NoTargetWaits`
looks for a RUNNING job alone. -/
def completeYetAborting : Job :=
  { id := 0, kind := .rebuild, first := 0, last := 0, targets := 2, window := 1, pattern := 0, cursor := 1, linesDone := 1,
    mismatches := 0, errors := 0, outcome := some .complete }

/-- Plane 0 ONLINE, the only one, with two overdue reads; plane 1 SYNCING, the target of `completeYetAborting`; no slot in flight. -/
def lastOnlineOverdue : State :=
  { State.reset with
    now := 1000
    service := .serving
    planes := #v[⟨.online, .up, 0, none⟩, ⟨.syncing, .up, 0, none⟩, ⟨.offline, .up, 0, none⟩, ⟨.offline, .up, 0, none⟩]
    ports := #v[{ resetPort with queue := [staleRead 0, staleRead 1] }, resetPort, resetPort, resetPort]
    sweep := { resetSweep with engine := .aborting, job := some completeYetAborting } }

/-- The OK response to plane 0's oldest read ends the job, and plane 1 becomes ONLINE before plane 0 fails by the read behind. -/
theorem lastOnlineOverdue_service :
    (takeResponse 0 0 0 true (some (.readOk 0)) lastOnlineOverdue.quiet).service = .serving := by
  decide +kernel

/-- Refutes O48: plane 0 is the only plane ONLINE and fails, but service is not halted, as `lastOnlineOverdue_service` gives. -/
theorem not_planeFailure : ¬ Obligations.PlaneFailure := fun h => by
  obtain ⟨t, hrun, -, -, -, -, hhalted, -⟩ := h.2 (.readResponse 0 0 0 0x00 0) 0 .timeout lastOnlineOverdue rfl
    ⟨rfl, rfl, rfl, rfl, .inl (by decide), staleRead 0, rfl, rfl, staleRead 1, [], rfl, by decide⟩ (by decide)
  have hservice : t.service = .halted := (hhalted rfl (by decide)).1
  cases hrun
  exact absurd (lastOnlineOverdue_service.symm.trans hservice) (by decide)

end Sys2Proof.Machine
end

section
/-! PROOFS. A matching response that reports an error, from the op's end through the failure or the count to the end of the event. -/

namespace Sys2Proof.Machine

/-! ## A port that has an op keeps one -/

theorem Port.isEmpty_eq_false_iff (q : Port) : q.isEmpty = false ↔ q.queue ≠ [] ∨ q.hostList ≠ [] ∨ q.sweepList ≠ [] := by
  simp only [Port.isEmpty, Bool.and_eq_false_iff, List.isEmpty_eq_false_iff]
  tauto

theorem Port.isEmpty_enlist (op : Op) (q : Port) : (q.enlist op).isEmpty = false := by
  rw [Port.isEmpty_eq_false_iff]
  unfold Port.enlist
  split
  · exact .inr (.inl (List.append_ne_nil_of_right_ne_nil _ (List.cons_ne_nil _ _)))
  · exact .inr (.inr (List.append_ne_nil_of_right_ne_nil _ (List.cons_ne_nil _ _)))

theorem isEmpty_grantOne {share now : Nat} {q q' : Port} (h : q.grantOne share now = some q') : q'.isEmpty = false := by
  obtain ⟨-, op, n, -, he⟩ := grantOne_cases share now q q' h
  rw [Port.isEmpty_eq_false_iff, he]
  exact .inl (List.append_ne_nil_of_right_ne_nil _ (List.cons_ne_nil _ _))

/-- No act takes the last op off a port: an op that leaves a list joins the queue. -/
abbrev OpsStay (s t : State) : Prop := ∀ p, (s.port p).isEmpty = false → (t.port p).isEmpty = false

theorem OpsStay.of_eq {s t : State} (h : t.ports = s.ports) : OpsStay s t := fun p hp => by simpa only [State.port, h] using hp

theorem OpsStay.setPort (s : State) (p : PlaneId) (q : Port) (h : q.isEmpty = false) : OpsStay s (s.setPort p q) := fun r hr => by
  rw [State.setPort_port]
  split
  · exact h
  · exact hr

theorem Touch.opsStay (s t : State) (h : Touch s t) : OpsStay s t := by
  cases h with
  | request t r k hk hr => rcases setRequest_cases t r s with ⟨k, -, he⟩ | ⟨-, he⟩ <;> rw [he] <;> exact .of_eq rfl
  | produce t st d => rcases produce_cases t st d s with ⟨r, -, he⟩ | ⟨-, he⟩ <;> rw [he] <;> exact .of_eq rfl
  | post b => rw [postRecord_frame]; exact .of_eq rfl
  | suspect e => rcases addSuspect_cases e s with ⟨l, -, he⟩ | ⟨-, he⟩ <;> rw [he] <;> exact .of_eq rfl
  | enlist p op h => exact .setPort s p _ (Port.isEmpty_enlist op _)
  | grant p u h =>
    obtain ⟨-, q, ops, hq, rfl⟩ := grantOp_cases p s _ h
    exact OpsStay.setPort s p q (isEmpty_grantOne hq)
  | abort o => rcases enterAborting_cases o s with h | ⟨-, ⟨j, -, h⟩ | ⟨-, h⟩⟩ <;> rw [h] <;> exact .of_eq rfl
  | unsuspect _ | rotate _ | slot _ _ _ | count _ _ _ _ => exact .of_eq rfl

theorem settleActs_opsStay (acts : List Act) (s : State) : OpsStay s (settleActs acts s) := by
  have htrans : ∀ {t u : State}, OpsStay s t → OpsStay t u → OpsStay s u := fun h k p hp => k p (h p hp)
  refine settleActs_keeps (OpsStay s) (perform_keeps (OpsStay s) (fun _ _ h hs => htrans hs (h.opsStay _ _)) ?_ ?_ ?_ ?_ ?_) acts s
    fun _ h => h
  · intro pos u hs; cases pos <;> exact htrans hs (.of_eq rfl)
  · intro pos kind line u hs; exact htrans hs (.of_eq rfl)
  · intro t u hs
    rcases placeHeldBack_cases t u with h | ⟨c, -, -, h⟩ <;> rw [h] <;> exact htrans hs (.of_eq rfl)
  · intro u hs
    rcases placeNext_cases u with h | ⟨j, k, -, -, -, -, -, h⟩ <;> rw [h] <;> exact htrans hs (.of_eq rfl)
  · intro u hs
    rcases completeJob_cases u with h | ⟨j, -, -, -, -, h⟩
    · rw [h]; exact hs
    · obtain ⟨planes, he⟩ := endJob_shape j .complete u
      rw [h, he]
      exact htrans hs (.of_eq rfl)

theorem arbitrate_opsStay (p : PlaneId) (s : State) : OpsStay s (arbitrate p s) :=
  (touches_arbitrate p s).rel (fun _ _ h => h) (fun _ _ _ h k p hp => k p (h p hp)) Touch.opsStay

theorem arbitrate_frame (p : PlaneId) (s : State) : ∃ ports out, arbitrate p s = { s with ports := ports, out := out } := by
  refine arbitrate_keeps (fun t => ∃ ports out, t = { s with ports := ports, out := out }) p (fun t t' ht h => ?_) s ⟨_, _, rfl⟩
  obtain ⟨ports, out, rfl⟩ := ht
  obtain ⟨-, q, ops, -, rfl⟩ := grantOp_cases p _ _ h
  exact ⟨_, _, rfl⟩

/-! ## The end of the event -/

/-- With one plane DETACHING at most, the end of an event tests its drain alone. -/
theorem endOfEvent_one (s : State) (p : PlaneId) (h : ∀ q, q ≠ p → (s.plane q).state ≠ .detaching) :
    endOfEvent s = drainPlane (endAbort s) p :=
  foldl_drainPlane_one _ p fun q hq hd => by
    rcases endAbort_cases s with he | ⟨j, o, -, -, -, -, -, he⟩
    · rw [he] at hd
      exact h q hq hd
    · rw [he, endJob_plane] at hd
      split at hd
      · split at hd <;> cases hd
      · exact h q hq hd

theorem endAbort_plane_of_detaching (s : State) (p : PlaneId) (h : (s.plane p).state = .detaching) :
    (endAbort s).plane p = s.plane p := by
  rcases endAbort_cases s with he | ⟨j, o, -, -, -, -, -, he⟩ <;> rw [he]
  rw [endJob_plane, if_neg (by rw [h]; exact fun hc => nomatch hc.2)]

/-- The end of an event of a drained DETACHING plane (R13). -/
theorem endOfEvent_drained (s : State) (p : PlaneId) (h : ∀ q, q ≠ p → (s.plane q).state ≠ .detaching)
    (hp : (s.plane p).state = .detaching) (he : (s.port p).isEmpty = true) :
    (endOfEvent s).plane p = { s.plane p with state := .offline } ∧
      (endOfEvent s).mgmt = { s.mgmt with result := some { code := .done, payload := [] }, busy := false } := by
  have hplane := endAbort_plane_of_detaching s p hp
  have hport : (endAbort s).port p = s.port p := by simp only [State.port, (endAbort_ports s).1]
  rw [endOfEvent_one s p h]
  unfold drainPlane
  rw [hplane, hport, if_pos ⟨hp, he⟩]
  refine ⟨(State.setPlane_plane (endAbort s) p _ p).trans (if_pos rfl), ?_⟩
  rw [← (inner_endAbort s).mgmt_eq]
  rfl

/-- The end of an event where no drain is due. -/
theorem endOfEvent_undrained (s : State) (p : PlaneId) (h : ∀ q, q ≠ p → (s.plane q).state ≠ .detaching)
    (hp : (s.plane p).state = .detaching → (s.port p).isEmpty = false) : (endOfEvent s).mgmt = s.mgmt := by
  rw [endOfEvent_one s p h, drainPlane_eq]
  · exact (inner_endAbort s).mgmt_eq
  · intro hd
    rw [show (endAbort s).port p = s.port p by simp only [State.port, (endAbort_ports s).1]]
    refine hp ?_
    rcases endAbort_cases s with he | ⟨j, o, -, -, -, -, -, he⟩
    · rwa [he] at hd
    · rw [he, endJob_plane] at hd
      split at hd
      · split at hd <;> cases hd
      · exact hd

/-- A queue whose ops were in time before, or were issued now, has no expiry due (R138). -/
theorem not_overdue {s t : State} {p : PlaneId} {xs more : List QueuedOp} (hq : (t.port p).queue = xs ++ more) (hin : InTime s xs)
    (hnow : t.now = s.now) (ht : t.planeTimeout = s.planeTimeout) (hmore : ∀ x ∈ more, x.issuedAt = s.now) : overdue t p = false := by
  by_contra ho
  obtain ⟨-, x, ys, hx, hlate⟩ := (overdue_iff t p).mp (by simpa using ho)
  rw [hnow, ht] at hlate
  have hmem : x ∈ xs ++ more := by rw [← hq, hx]; exact List.mem_cons_self
  rcases List.mem_append.mp hmem with h | h
  · exact absurd (hin x h) (by omega)
  · exact absurd (hmore x h) (by omega)

theorem expireOverdue_empty (s : State) (p : PlaneId) (h : (s.port p).queue = []) : expireOverdue s p = s :=
  expireOverdue_eq s p <| by
    by_contra ho
    obtain ⟨-, x, ys, hx, -⟩ := (overdue_iff s p).mp (by simpa using ho)
    rw [h] at hx
    cases hx

/-! ## The op's end -/

/-- The state in which the oldest op of plane `p` is gone and its end has been settled. -/
def opEnded (p : PlaneId) (x : QueuedOp) (xs : List QueuedOp) (e : OpEnd) (s : State) : State :=
  settleActs [.deliver x.op p e] (s.setPort p { s.port p with queue := xs })

/-- What the settled end of plane `p`'s oldest op leaves of the planes and of `p`'s port. -/
structure OpEnds (p : PlaneId) (xs : List QueuedOp) (s u : State) : Prop where
  planes : PlanesGo s u
  inner : Inner s u
  queue : ∃ more, (u.port p).queue = xs ++ more ∧ ∀ x ∈ more, x.issuedAt = s.now
  gen : (u.port p).gen = (s.port p).gen
  still : ¬TakesOps s p → (s.port p).hostList = [] → (s.port p).sweepList = [] → u.port p = { s.port p with queue := xs }
  stays : xs ≠ [] ∨ (s.port p).hostList ≠ [] ∨ (s.port p).sweepList ≠ [] → (u.port p).isEmpty = false

theorem opEnded_ends (p : PlaneId) (x : QueuedOp) (xs : List QueuedOp) (e : OpEnd) (s : State) : OpEnds p xs s (opEnded p x xs e s) := by
  unfold opEnded
  have hport : (s.setPort p { s.port p with queue := xs }).port p = { s.port p with queue := xs } := by
    rw [State.setPort_port, if_pos rfl]
  have hgo := settleActs_portsGo [.deliver x.op p e] (s.setPort p { s.port p with queue := xs })
  obtain ⟨⟨more, hmore, hnow⟩, hgen⟩ := hgo.port p
  rw [hport] at hmore hgen
  have hinner : Inner s (s.setPort p { s.port p with queue := xs }) := rfl
  have hpopped : PlanesGo s (s.setPort p { s.port p with queue := xs }) := .of_eq rfl rfl
  refine ⟨hpopped.trans _ _ _ (settleActs_planesGo _ _), hinner.trans (inner_settleActs _ _), ⟨more, hmore, hnow⟩, hgen,
    fun ht hh hs => ?_, fun h => ?_⟩
  · rw [hgo.still p (fun h => ht (h.of_planes rfl)) (by rw [hport]; exact hh) (by rw [hport]; exact hs), hport]
  · refine settleActs_opsStay _ _ p ?_
    rw [hport, Port.isEmpty_eq_false_iff]
    exact h

theorem opEnded_quiet (p : PlaneId) (x : QueuedOp) (xs : List QueuedOp) (e : OpEnd) (s : State) :
    OpEnds p xs s (opEnded p x xs e s.quiet) := by
  obtain ⟨hplanes, hinner, hqueue, hgen, hstill, hstays⟩ := opEnded_ends p x xs e s.quiet
  have hquiet : PlanesGo s s.quiet := .of_eq rfl rfl
  have hinner' : Inner s s.quiet := rfl
  exact ⟨hquiet.trans _ _ _ hplanes, hinner'.trans hinner, hqueue, hgen, hstill, hstays⟩

theorem OpEnds.plane_eq {p : PlaneId} {xs : List QueuedOp} {s u : State} (h : OpEnds p xs s u) (q : PlaneId)
    (hq : (s.plane q).state ≠ .syncing) : u.plane q = s.plane q := (h.planes.plane q).resolve_right fun hp => hq hp.1

theorem OpEnds.not_detaching {p : PlaneId} {xs : List QueuedOp} {s u : State} (h : OpEnds p xs s u) (q : PlaneId)
    (hq : (s.plane q).state ≠ .detaching) : (u.plane q).state ≠ .detaching := by
  rcases h.planes.plane q with hp | ⟨-, -, hp⟩ <;> rw [hp]
  · exact hq
  · exact nofun

/-! ## The two error responses -/

theorem exec_readError (p : PlaneId) (x : QueuedOp) (xs : List QueuedOp) (data : LineData) (s : State)
    (hs : (s.plane p).state.inService = true) (hq : (s.port p).queue = x :: xs) (hx : x.op.body = .read) :
    exec (.readResponse p x.slot (s.port p).gen 0x01 data) s =
      .next (expireOverdue (endOfEvent (arbitrate p (countDataError p (opEnded p x xs .dataError s.quiet)))) p) := by
  refine congrArg Host.Outcome.next ?_
  unfold takeResponse
  rw [if_neg (by simpa [setAside, State.quiet, State.plane, State.port] using hs)]
  exact congrArg (fun u => expireOverdue (endOfEvent u) p)
    (matchResponse_matched p true .dataError x xs s.quiet hq (by rw [hx]; rfl))

theorem exec_writeError (p : PlaneId) (x : QueuedOp) (xs : List QueuedOp) (s : State)
    (hs : (s.plane p).state.inService = true) (hq : (s.port p).queue = x :: xs) (hx : x.op.body ≠ .read) :
    exec (.writeResponse p x.slot (s.port p).gen 0x02) s =
      .next (expireOverdue (endOfEvent (arbitrate p (failPlane p .writeError (opEnded p x xs .writeError s.quiet)))) p) := by
  refine congrArg Host.Outcome.next ?_
  unfold takeResponse
  rw [if_neg (by simpa [setAside, State.quiet, State.plane, State.port] using hs)]
  exact congrArg (fun u => expireOverdue (endOfEvent u) p)
    (matchResponse_matched p false .writeError x xs s.quiet hq (by simpa using hx))

/-- What the rest of its event leaves of a failure: the record, the flushed port and the answer to a PLANE_DETACH. -/
theorem afterFailure (p : PlaneId) (c : FailCause) (u : State) (hs : (u.plane p).state.inService = true)
    (hother : ∀ q, q ≠ p → (u.plane q).state ≠ .detaching ∨ (u.plane p).state ≠ .detaching) :
    let t := expireOverdue (endOfEvent (arbitrate p (failPlane p c u))) p
    t.plane p = failedRecord (u.plane p) c ∧ t.port p = (u.port p).flushed ∧
      ((u.plane p).state = .detaching →
        t.mgmt = { u.mgmt with result := some { code := .planeFailed, payload := [] }, busy := false }) := by
  intro t
  have hfails := failPlane_fails p c u hs
  have hflushed := (failPlane_failsPorts p c u hs).flushed
  obtain ⟨ports, out, harb⟩ := arbitrate_frame p (failPlane p c u)
  have hgo := arbitrate_portsGo p (failPlane p c u)
  have hplane : ∀ q, (arbitrate p (failPlane p c u)).plane q = (failPlane p c u).plane q := fun q => by rw [harb]; rfl
  have hmgmt : (arbitrate p (failPlane p c u)).mgmt = (failPlane p c u).mgmt := by rw [harb]
  have hport : (arbitrate p (failPlane p c u)).port p = (u.port p).flushed := by
    rw [hgo.still p ?_ (by rw [hflushed]; rfl) (by rw [hflushed]; rfl), hflushed]
    simp [TakesOps, hfails.failed, failedRecord]
  have hfailed : (arbitrate p (failPlane p c u)).plane p = failedRecord (u.plane p) c := (hplane p).trans hfails.failed
  have hends := endOfEvent_ends (arbitrate p (failPlane p c u))
  have ht : t = endOfEvent (arbitrate p (failPlane p c u)) :=
    expireOverdue_empty _ p (by rw [hends.port, hport]; rfl)
  rw [ht]
  refine ⟨?_, by rw [hends.port, hport], fun hd => ?_⟩
  · rw [hends.plane_eq p (by rw [hfailed]; exact nofun) (by rw [hfailed]; exact nofun), hfailed]
  · rw [endOfEvent_undrained _ p, hmgmt, hfails.mgmt, if_pos hd]
    · intro q hq
      rw [hplane]
      rcases hfails.other q hq with h | ⟨-, -, h⟩ <;> rw [h]
      · exact (hother q hq).resolve_right (· hd)
      · exact nofun
    · intro hdet
      rw [hfailed] at hdet
      cases hdet

/-- What the rest of its event leaves of a DATA_ERROR below the error limit. -/
theorem afterCount (p : PlaneId) (xs : List QueuedOp) (s u : State) (r : PlaneRec) (hends : OpEnds p xs s u) (hin : InTime s xs)
    (hr : r.state = .online ∨ r.state = .detaching ∧ (s.plane p).state = .detaching)
    (hother : (s.plane p).state = .detaching → ∀ q, q ≠ p → (s.plane q).state ≠ .detaching) :
    ∀ t, expireOverdue (endOfEvent (arbitrate p (u.setPlane p r))) p = t →
    (t.plane p).errorCount = r.errorCount ∧ (t.port p).gen = (s.port p).gen ∧ (∃ more, (t.port p).queue = xs ++ more) ∧
      (r.state = .online → (t.plane p).state = .online) ∧
      (r.state = .detaching →
        (xs = [] ∧ (s.port p).hostList = [] ∧ (s.port p).sweepList = [] → (t.plane p).state = .offline ∧
          t.mgmt = { s.mgmt with result := some { code := .done, payload := [] }, busy := false }) ∧
        (xs ≠ [] ∨ (s.port p).hostList ≠ [] ∨ (s.port p).sweepList ≠ [] → (t.plane p).state = .detaching ∧ t.mgmt = s.mgmt)) := by
  rintro t rfl
  obtain ⟨ports, out, harb⟩ := arbitrate_frame p (u.setPlane p r)
  have hgo := arbitrate_portsGo p (u.setPlane p r)
  have hstays := arbitrate_opsStay p (u.setPlane p r) p
  have hplane : ∀ q, (arbitrate p (u.setPlane p r)).plane q = if q = p then r else u.plane q := fun q => by
    rw [harb]; exact State.setPlane_plane u p r q
  have hmgmt : (arbitrate p (u.setPlane p r)).mgmt = s.mgmt := by rw [harb]; exact hends.inner.mgmt_eq
  have hnow : u.now = s.now := by rw [hends.inner]
  have htimeout : u.planeTimeout = s.planeTimeout := by rw [hends.inner]
  have hport : (u.setPlane p r).port p = u.port p := rfl
  have hgoes := hgo.port p
  have hstill := hgo.still p
  rw [hport] at hgoes hstill hstays
  obtain ⟨⟨more', hmore', hnow'⟩, hgen'⟩ := hgoes
  have htakes : TakesOps (u.setPlane p r) p ↔ r.state = .online ∨ r.state = .syncing := by
    unfold TakesOps
    rw [State.setPlane_plane, if_pos rfl]
  obtain ⟨hn, ht⟩ := And.intro hgo.now hgo.timeout
  generalize arbitrate p (u.setPlane p r) = v at *
  obtain ⟨more, hmore, hissued⟩ := hends.queue
  have hqueue : (v.port p).queue = xs ++ (more ++ more') := by
    rw [hmore', hmore, List.append_assoc]
  have hends' := endOfEvent_ends v
  have hdue : expireOverdue (endOfEvent v) p = endOfEvent v := by
    refine expireOverdue_eq _ p (not_overdue (by rw [hends'.port]; exact hqueue) hin ?_ ?_ ?_)
    · rw [hends'.now, hn]; exact hnow
    · rw [hends'.timeout, ht]; exact htimeout
    · intro x hx
      rcases List.mem_append.mp hx with h | h
      · exact hissued x h
      · exact (hnow' x h).trans hnow
  have hp : v.plane p = r := by rw [hplane, if_pos rfl]
  rw [hdue, hends'.port]
  refine ⟨?_, hgen'.trans hends.gen, ⟨_, hqueue⟩, fun ho => ?_, fun hd => ?_⟩
  · by_cases hd : r.state = .detaching
    · rcases hends'.detaching p (by rw [hp]; exact hd) with h | ⟨-, h⟩ <;> rw [h, hp]
    · have ho : r.state = .online := hr.resolve_right fun h => hd h.1
      rw [hends'.plane_eq p (by rw [hp, ho]; exact nofun) (by rw [hp, ho]; exact nofun), hp]
  · rw [hends'.plane_eq p (by rw [hp, ho]; exact nofun) (by rw [hp, ho]; exact nofun), hp, ho]
  · have hsd : (s.plane p).state = .detaching := (hr.resolve_left (by rw [hd]; exact nofun)).2
    have hothers : ∀ q, q ≠ p → (v.plane q).state ≠ .detaching := fun q hq => by
      rw [hplane, if_neg hq]
      exact hends.not_detaching q (hother hsd q hq)
    refine ⟨fun ⟨hx, hh, hs⟩ => ?_, fun h => ?_⟩
    · have hupre : u.port p = { s.port p with queue := xs } := hends.still (by rw [TakesOps, hsd]; exact nofun) hh hs
      have hpv : v.port p = { s.port p with queue := xs } := by
        rw [hstill (by rw [htakes, hd]; exact nofun) (by rw [hupre]; exact hh) (by rw [hupre]; exact hs), hupre]
      have hdrained := endOfEvent_drained v p hothers (by rw [hp]; exact hd)
        (by rw [hpv, hx, Port.isEmpty]; simp [hh, hs])
      rw [hdrained.1, hdrained.2, hmgmt]
      exact ⟨rfl, rfl⟩
    · have hempty : (v.port p).isEmpty = false := hstays (hends.stays h)
      refine ⟨?_, by rw [endOfEvent_undrained v p hothers fun _ => hempty, hmgmt]⟩
      rcases hends'.detaching p (by rw [hp]; exact hd) with h | ⟨hc, -⟩
      · rw [h, hp, hd]
      · rw [hempty] at hc; cases hc

/-- Settles O49: the end of the op leaves the plane as it is but for the end of a job, and the count or the failure follows. -/
theorem errorsCounted : Obligations.ErrorsCounted := by
  intro p data x xs s hdetach hq
  have hunique : (s.plane p).state = .detaching → ∀ q, q ≠ p → (s.plane q).state ≠ .detaching :=
    fun hp q hqp hd => hqp (hdetach.2.1 q p hd hp)
  refine ⟨fun hbody hstate hin => ?read, fun hbody hstate => ?write⟩
  case read =>
    have hserv : (s.plane p).state.inService = true := by rcases hstate with h | h <;> rw [h] <;> rfl
    refine ⟨_, exec_readError p x xs data s hserv hq hbody, ?_⟩
    have hends := opEnded_quiet p x xs .dataError s
    generalize opEnded p x xs .dataError s.quiet = u at hends
    have hplane : u.plane p = s.plane p := hends.plane_eq p (by rcases hstate with h | h <;> rw [h] <;> exact nofun)
    have hlimit : u.errorLimit = s.errorLimit := by rw [hends.inner]
    unfold countDataError
    simp only [hplane, hlimit]
    have hself : (u.setPlane p { s.plane p with errorCount := (s.plane p).errorCount + 1 }).plane p =
        { s.plane p with errorCount := (s.plane p).errorCount + 1 } := by rw [State.setPlane_plane, if_pos rfl]
    split
    · next hle =>
      have hfail := afterFailure p .errorLimit (u.setPlane p { s.plane p with errorCount := (s.plane p).errorCount + 1 })
        (by rw [hself]; exact hserv) fun q hqp => by
          rw [hself, State.setPlane_plane, if_neg hqp]
          by_cases hd : (s.plane p).state = .detaching
          · exact .inl (hends.not_detaching q (hunique hd q hqp))
          · exact .inr hd
      rw [hself] at hfail
      obtain ⟨hp, hport, hmgmt⟩ := hfail
      rw [hp, hport]
      refine ⟨rfl, fun _ => ⟨rfl, rfl, congrArg (· + 1) hends.gen, rfl, fun hd => ?_⟩, fun hlt => absurd hle (by omega)⟩
      rw [hmgmt hd, ← hends.inner.mgmt_eq]
      rfl
    · next hle =>
      obtain ⟨hcount, hgen, hmore, honline, hdet⟩ :=
        afterCount p xs s u { s.plane p with errorCount := (s.plane p).errorCount + 1 } hends hin (hstate.imp id fun h => ⟨h, h⟩) hunique
          _ rfl
      exact ⟨hcount, fun h => absurd h hle, fun _ => ⟨hgen, hmore, honline, hdet⟩⟩
  case write =>
    have hserv : (s.plane p).state.inService = true := by rcases hstate with h | h | h <;> rw [h] <;> rfl
    refine ⟨_, exec_writeError p x xs s hserv hq hbody, ?_⟩
    have hends := opEnded_quiet p x xs .writeError s
    generalize opEnded p x xs .writeError s.quiet = u at hends
    have hgo := hends.planes.plane p
    obtain ⟨hp, hport, hmgmt⟩ := afterFailure p .writeError u
      (by rcases hgo with h | ⟨-, -, h⟩ <;> rw [h]; exacts [hserv, rfl]) fun q hqp => by
        by_cases hd : (s.plane p).state = .detaching
        · exact .inl (hends.not_detaching q (hunique hd q hqp))
        · exact .inr (hends.not_detaching p hd)
    rw [hp, hport]
    refine ⟨rfl, rfl, congrArg (· + 1) hends.gen, rfl, fun h => ?_, fun hd => ?_⟩
    · rcases hgo with h' | ⟨hs, hr, -⟩
      · rw [h']; rfl
      · exact absurd h (by simp [hs, hr])
    · rw [hmgmt (by rw [hends.plane_eq p (by rw [hd]; exact nofun)]; exact hd), hends.inner.mgmt_eq]

end Sys2Proof.Machine
end

section
/-! PROOFS. The event of one op's end: a matching response, or the fall of LRDY, as the acts of the end with the plane manager's part
behind them. -/

namespace Sys2Proof.Machine

/-! ## Posting and failing as writes of a few fields -/

/-- The log after a posting (R117, R118). -/
def DivLog.posted (b : RecBody) (l : DivLog) : DivLog :=
  match mergedRecords b l.records with
  | some records => { l with records := records }
  | none => l.accept b

/-- The sticky causes after a posting (R118). -/
def DivLog.alarmed (b : RecBody) (l : DivLog) (c : CauseSet) : CauseSet :=
  if (mergedRecords b l.records).isNone ∧ l.isFull = true then c ||| causeLogOverflow else c

/-- A posting writes the log and the sticky causes, from these alone. -/
theorem postRecord_eq (b : RecBody) (s : State) :
    postRecord b s = { s with log := s.log.posted b, sticky := s.log.alarmed b s.sticky } := by
  unfold postRecord DivLog.posted DivLog.alarmed
  cases mergedRecords b s.log.records with
  | some records => rfl
  | none =>
    dsimp only
    cases hf : s.log.isFull <;> simp [setSticky]

/-- What a failure does after the end has reached the op's owner, as a write of log, service and sticky causes. -/
theorem failureEnded_some (p : PlaneId) {e : OpEnd} {c : FailCause} (h : e.failure = some c) (s : State) :
    failureEnded p e s = { s with
      log := s.log.posted (failureRecord p c)
      service := if ∃ q, (s.plane q).state = .online then s.service else .halted
      sticky := s.log.alarmed (failureRecord p c) s.sticky ||| causePlaneFailed |||
        if (∃ q, (s.plane q).state = .online) ∨ s.service = .halted then 0 else causeServiceLost } := by
  unfold failureEnded
  rw [h]
  dsimp only
  rw [show (({ kind := .planeFailed, origin := .plane c, line := none, planes := onePlane p, outcome := .failed } : RecBody) =
    failureRecord p c) from rfl, postRecord_eq]

theorem failureEnded_none (p : PlaneId) {e : OpEnd} (h : e.failure = none) (s : State) : failureEnded p e s = s := by
  unfold failureEnded
  rw [h]

/-- The outputs stand apart from a failure. -/
theorem failureEnded_out (p : PlaneId) (e : OpEnd) (s : State) (o : Outputs) :
    { failureEnded p e s with out := o } = failureEnded p e { s with out := o } := by
  cases h : e.failure with
  | none => rw [failureEnded_none p h, failureEnded_none p h]
  | some c => rw [failureEnded_some p h, failureEnded_some p h]; rfl

/-! ## The state in which the acts of an end run, and the plane manager's part after them -/

/-- The state in which the acts of the end of plane `p`'s oldest op run: the op gone, or the plane FAILED and its port flushed (R6). -/
def endStart (p : PlaneId) (xs : List QueuedOp) (e : OpEnd) (s : State) : State :=
  match e with
  | .lost => (planeEnded p xs .lost s).quiet
  | .readOk _ | .dataError | .writeOk | .writeError => (s.setPort p { s.port p with queue := xs }).quiet

/-- The plane manager's own part of an end that is a response (R5): the DATA_ERROR counted, or the plane FAILED and its port flushed. -/
def endCounted (p : PlaneId) (e : OpEnd) (s : State) (v : State) : State :=
  match e with
  | .dataError => v.setPlane p { s.plane p with errorCount := (s.plane p).errorCount + 1 }
  | .writeError => (v.setPlane p { s.plane p with state := .failed, cause := some .writeError }).setPort p (s.port p).flushed
  | .readOk _ | .writeOk | .lost => v

/-- Of planes, ports and pins, `endStart` and `endCounted` write what `planeEnded` does. -/
theorem endCounted_endStart (p : PlaneId) (xs : List QueuedOp) (e : OpEnd) (s : State) :
    endCounted p e s (endStart p xs e s) = (planeEnded p xs e s).quiet := by
  cases e <;> simp [endCounted, endStart, planeEnded, State.quiet, State.setPlane, State.setPort, Port.flushed, State.port, State.plane]

theorem endStart_eq (p : PlaneId) (xs : List QueuedOp) (e : OpEnd) (s : State) : endStart p xs e s = { s with
    planes := (endStart p xs e s).planes, ports := (endStart p xs e s).ports, pins := (endStart p xs e s).pins, out := {} } := by
  cases e <;> rfl

/-- `x` is the oldest op of plane `p`, with none on its lists, and the ops behind it are in time. -/
abbrev OldestOp (s : State) (p : PlaneId) (x : QueuedOp) (xs : List QueuedOp) : Prop :=
  (s.port p).queue = x :: xs ∧ (s.port p).hostList = [] ∧ (s.port p).sweepList = [] ∧ InTime s xs

/-- The end names the kind of op that it ends. -/
def OpEnd.fits (e : OpEnd) (b : OpBody) : Prop :=
  match e with
  | .readOk _ | .dataError => b = .read
  | .writeOk | .writeError => b ≠ .read
  | .lost => True

theorem arbitrate_idle (p : PlaneId) (s : State) (hh : (s.port p).hostList = []) (hs : (s.port p).sweepList = []) : arbitrate p s = s := by
  unfold arbitrate
  rw [hh, hs]
  rfl

section
variable {s v : State} {p : PlaneId} {x : QueuedOp} {xs : List QueuedOp}

/-- A matching response with an OK status is the acts of its end, and the end of the event (R136). -/
theorem takeResponse_ok (isRead : Bool) (e : OpEnd) (hserv : (s.plane p).state.inService = true) (hq : OldestOp s p x xs)
    (hb : (x.op.body == .read) = isRead) (he : e = .writeOk ∨ ∃ d, e = .readOk d)
    (hv : settleActs [.deliver x.op p e] (s.setPort p { s.port p with queue := xs }).quiet = v)
    (hh : (v.port p).hostList = []) (hs : (v.port p).sweepList = []) :
    takeResponse p x.slot (s.port p).gen isRead (some e) s.quiet = endOfEvent v := by
  obtain ⟨hqueue, -, -, hin⟩ := hq
  have hpopped : (s.setPort p { s.port p with queue := xs }).quiet = s.quiet.setPort p { s.quiet.port p with queue := xs } := rfl
  have hmatch : matchResponse p x.slot isRead (some e) s.quiet = v := by
    rw [matchResponse_matched p isRead e x xs s.quiet hqueue hb, ← hpopped, hv]
    have hafter : afterEnd p e v = v := by rcases he with rfl | ⟨d, rfl⟩ <;> rfl
    rw [hafter, arbitrate_idle p v hh hs]
  have hends := endOfEvent_ends v
  have hgo := settleActs_portsGo [.deliver x.op p e] (s.setPort p { s.port p with queue := xs }).quiet
  rw [hv] at hgo
  obtain ⟨⟨more, hmore, hnow⟩, -⟩ := hgo.port p
  have hdue : overdue (endOfEvent v) p = false := by
    refine not_overdue (s := s) (xs := xs) (more := more) ?_ hin (hends.now.trans hgo.now) (hends.timeout.trans hgo.timeout) hnow
    rw [hends.port, hmore]
    exact congrArg (fun q : Port => q.queue ++ more) (State.setPort_port_same s p _)
  have htaken := takeResponse_taken p x.slot isRead (some e) s.quiet hserv (by rw [hmatch]; exact hdue)
  rw [hmatch] at htaken
  exact htaken

/-- A DATA_ERROR below the error limit is the acts of its end, the count, and the end of the event (R8). -/
theorem takeResponse_dataError (hserv : (s.plane p).state.inService = true) (hq : OldestOp s p x xs) (hb : x.op.body = .read)
    (hlimit : (s.plane p).errorCount + 1 < s.errorLimit)
    (hv : settleActs [.deliver x.op p .dataError] (s.setPort p { s.port p with queue := xs }).quiet = v)
    (hplane : v.plane p = s.plane p) (hh : (v.port p).hostList = []) (hs : (v.port p).sweepList = []) :
    takeResponse p x.slot (s.port p).gen true (some .dataError) s.quiet = endOfEvent (endCounted p .dataError s v) := by
  obtain ⟨hqueue, -, -, hin⟩ := hq
  have hpopped : (s.setPort p { s.port p with queue := xs }).quiet = s.quiet.setPort p { s.quiet.port p with queue := xs } := rfl
  have hinner := inner_settleActs [.deliver x.op p .dataError] (s.setPort p { s.port p with queue := xs }).quiet
  have hgo := settleActs_portsGo [.deliver x.op p .dataError] (s.setPort p { s.port p with queue := xs }).quiet
  rw [hv] at hinner hgo
  have hmatch : matchResponse p x.slot true (some .dataError) s.quiet = endCounted p .dataError s v := by
    rw [matchResponse_matched p true .dataError x xs s.quiet hqueue (by rw [hb]; rfl), ← hpopped, hv]
    have hcount : countDataError p v = endCounted p .dataError s v := by
      have herr : v.errorLimit = s.errorLimit := by rw [hinner]; rfl
      unfold countDataError
      simp only [hplane, herr]
      exact if_neg (by omega)
    rw [show afterEnd p .dataError v = countDataError p v from rfl, hcount]
    exact arbitrate_idle p _ hh hs
  have hends := endOfEvent_ends (endCounted p .dataError s v)
  obtain ⟨⟨more, hmore, hnow⟩, -⟩ := hgo.port p
  have hdue : overdue (endOfEvent (endCounted p .dataError s v)) p = false := by
    refine not_overdue (s := s) (xs := xs) (more := more) ?_ hin (hends.now.trans hgo.now) (hends.timeout.trans hgo.timeout) hnow
    rw [hends.port]
    refine hmore.trans ?_
    exact congrArg (fun q : Port => q.queue ++ more) (State.setPort_port_same s p _)
  have htaken := takeResponse_taken p x.slot true (some .dataError) s.quiet hserv (by rw [hmatch]; exact hdue)
  rw [hmatch] at htaken
  exact htaken

end

/-! ## A failure that brings no end of a job -/

theorem abortOnFailure_idle (was : PlaneState) (s : State) (h : s.sweep.engine ≠ .running) : abortOnFailure was s = s := by
  have habort : ∀ o, enterAborting o s = s := fun o => if_neg h
  unfold abortOnFailure
  simp only [habort, ite_self]
  split <;> rfl

theorem failFirst_idle (p : PlaneId) (c : FailCause) (s : State) (h : s.sweep.engine ≠ .running) :
    failFirst p c s = (s.setPlane p (failedRecord (s.plane p) c)).setPort p (s.port p).flushed := by
  unfold failFirst
  rw [abortOnFailure_idle _ (s.setPlane p (failedRecord (s.plane p) c)) h]

/-- The failure of an ONLINE plane, once the ends of its ops have been settled. -/
theorem failPlane_online (p : PlaneId) (e : OpEnd) (c : FailCause) (s v : State) (h : (s.plane p).state = .online)
    (he : e.failure = some c)
    (hv : settleActs ((s.port p).allOps.map fun op => Act.deliver op p .lost) (failFirst p c s) = v)
    (hp : v.planes = (failFirst p c s).planes) : failPlane p c s = failureEnded p e v := by
  rw [failPlane_failed p c s (by rw [h]; rfl), h]
  unfold failureSettled
  rw [hv, failureEnded_some p he]
  have honline : (onlinePlanes (failFirst p c s) == 0) = true ↔ ¬∃ q, (v.plane q).state = .online := by
    rw [beq_iff_eq, show (0 : PlaneSet) = 0#4 from rfl, onlinePlanes_eq_zero, not_exists]
    simp only [State.plane, hp]
  show haltService (onlinePlanes (failFirst p c s) == 0) (setSticky causePlaneFailed (postRecord (failureRecord p c) v)) = _
  generalize (onlinePlanes (failFirst p c s) == 0) = last at honline
  rw [postRecord_eq]
  unfold haltService
  by_cases ho : ∃ q, (v.plane q).state = .online
  · rw [if_neg fun hc => honline.mp hc.1 ho, if_pos ho, if_pos (.inl ho)]
    simp [setSticky]
  · rw [if_neg ho]
    rcases hs : v.service with _ | _
    · rw [if_neg (fun hc => nomatch hc.2), if_pos (.inr rfl)]
      simp [setSticky]
    · rw [if_pos ⟨honline.mpr ho, rfl⟩, if_neg (fun hc => hc.elim ho nofun)]
      rfl

/-! ## The event -/

section
variable {s v : State} {p : PlaneId} {x : QueuedOp} {xs : List QueuedOp}

/-- The event of the end of plane `p`'s oldest op, where nothing else comes with it: the acts of the end, the plane manager's part, and
what a failure does after them. -/
theorem exec_end (e : OpEnd) (data : LineData) (h : OldestEnds s p x xs e) (hb : e.fits x.op.body)
    (hv : settleActs [.deliver x.op p e] (endStart p xs e s) = v) (hplanes : v.planes = (endStart p xs e s).planes)
    (hengine : e.failure ≠ none → v.sweep.engine ≠ .running) (hwrite : e = .writeError → v.ports = (endStart p xs e s).ports)
    (hh : (v.port p).hostList = []) (hs : (v.port p).sweepList = []) (hdue : NothingDue (failureEnded p e (endCounted p e s v))) :
    exec (endCommand s p x data e) s = .next (failureEnded p e (endCounted p e s v)) := by
  obtain ⟨hon, hqueue, hhost, hsweep, hin, -, hlimit, hfail⟩ := h
  have hserv : (s.plane p).state.inService = true := by rw [hon]; rfl
  have hold : OldestOp s p x xs := ⟨hqueue, hhost, hsweep, hin⟩
  rw [← hdue.endOfEvent]
  cases e with
  | readOk d =>
    refine congrArg Host.Outcome.next ((takeResponse_ok true (.readOk d) hserv hold ?_ (.inr ⟨d, rfl⟩) hv hh hs).trans ?_)
    · rw [show x.op.body = .read from hb]; rfl
    · rw [failureEnded_none p rfl]; rfl
  | writeOk =>
    refine congrArg Host.Outcome.next ((takeResponse_ok false .writeOk hserv hold ?_ (.inl rfl) hv hh hs).trans ?_)
    · simpa [OpEnd.fits] using hb
    · rw [failureEnded_none p rfl]; rfl
  | dataError =>
    have hplane : v.plane p = s.plane p := by simp only [State.plane, hplanes]; rfl
    refine congrArg Host.Outcome.next ((takeResponse_dataError hserv hold hb (hlimit rfl) hv hplane hh hs).trans ?_)
    rw [failureEnded_none p rfl]
  | writeError =>
    obtain ⟨rfl, hidle⟩ := hfail nofun
    have hplane : v.plane p = s.plane p := by simp only [State.plane, hplanes]; rfl
    have hport : v.port p = { s.port p with queue := [] } := by
      rw [← State.setPort_port_same s p { s.port p with queue := [] }]
      simp only [State.port, hwrite rfl]
      rfl
    have hfirst : failFirst p .writeError v = endCounted p .writeError s v := by
      rw [failFirst_idle _ _ _ (hengine nofun), hplane, hport]
      rfl
    have hends : failPlane p .writeError v = failureEnded p .writeError (endCounted p .writeError s v) := by
      refine failPlane_online p .writeError .writeError v _ (by rw [hplane]; exact hon) rfl ?_ (by rw [hfirst])
      rw [hport, hfirst, show ({ s.port p with queue := [] } : Port).allOps = [] by simp [Port.allOps, hhost, hsweep]]
      exact settleActs_nil _
    have hflushed : (failureEnded p .writeError (endCounted p .writeError s v)).port p = (s.port p).flushed := by
      rw [failureEnded_some p rfl]
      exact State.setPort_port_same _ p _
    have hmatch : matchResponse p x.slot false (some .writeError) s.quiet = failureEnded p .writeError (endCounted p .writeError s v) := by
      rw [matchResponse_matched p false .writeError x [] s.quiet hqueue (by simpa [OpEnd.fits] using hb)]
      refine (congrArg (fun u => arbitrate p (afterEnd p .writeError u)) hv).trans ?_
      rw [show afterEnd p .writeError v = failPlane p .writeError v from rfl, hends]
      exact arbitrate_idle p _ (by rw [hflushed]; rfl) (by rw [hflushed]; rfl)
    have hnot : overdue (endOfEvent (failureEnded p .writeError (endCounted p .writeError s v))) p = false := by
      rw [hdue.endOfEvent]
      by_contra ho
      obtain ⟨-, y, ys, hy, -⟩ := (overdue_iff _ p).mp (by simpa using ho)
      rw [hflushed] at hy
      cases hy
    have htaken := takeResponse_taken p x.slot false (some .writeError) s.quiet hserv (by rw [hmatch]; exact hnot)
    rw [hmatch] at htaken
    exact congrArg Host.Outcome.next htaken
  | lost =>
    obtain ⟨rfl, hidle⟩ := hfail nofun
    refine congrArg Host.Outcome.next (congrArg endOfEvent ?_)
    have hself : (setLrdy p false .down s.quiet).plane p = { s.plane p with link := .down } := State.setPlane_plane_same s p _
    have hfirst : failFirst p .linkLost (setLrdy p false .down s.quiet) = endStart p [] .lost s := by
      rw [failFirst_idle _ _ _ (by rw [show (setLrdy p false .down s.quiet).sweep = s.sweep from rfl, hidle]; exact nofun), hself]
      simp [setLrdy, endStart, planeEnded, State.setPlane, State.setPort, State.quiet, State.port, Port.flushed, failedRecord]
    refine failPlane_online p .lost .linkLost _ v (by rw [hself]; exact hon) rfl ?_ (by rw [hfirst]; exact hplanes)
    rw [hfirst, show (setLrdy p false .down s.quiet).port p = s.port p from rfl,
      show (s.port p).allOps = [x.op] by simp [Port.allOps, hqueue, hhost, hsweep]]
    exact hv

end

end Sys2Proof.Machine
end

section
/-! PROOFS. The end of one op that brings no other event: no drain, no end of a job, no expiry. The acts of the end decide the rest. -/

namespace Sys2Proof.Machine

/-! ## No end is due after the event -/

/-- No end of an abort is due where the engine stays and the SYNCING planes keep their host writes (R107). -/
theorem NothingDue.abort_after {s v : State} (h : NothingDue s) (hw : v.sweep = s.sweep)
    (hsync : s.sweep.engine = .aborting → ∀ q, ((v.plane q).state = .syncing ↔ (s.plane q).state = .syncing) ∧
      ((s.plane q).state = .syncing → (v.port q).hostList.any Op.isHostWrite = (s.port q).hostList.any Op.isHostWrite ∧
        ((v.port q).queue.any fun x => x.op.isHostWrite) = (s.port q).queue.any fun x => x.op.isHostWrite)) :
    ∀ j ∈ v.sweep.job, v.sweep.engine = .aborting → noSlotInFlight v = false ∨ targetsDrained v j = false := by
  intro j hj he
  rw [hw] at hj he
  have hsets : syncingTargets v j = syncingTargets s j := planeSet_ext _ _ fun q => by
    simp only [syncingTargets, inSet_and, inSet_planesIn]
    rw [Bool.eq_iff_iff]
    simp only [Bool.and_eq_true, beq_iff_eq, (hsync he q).1]
  have hslots : noSlotInFlight v = noSlotInFlight s := by simp only [noSlotInFlight, slotsInFlight, State.slot, hw]
  have hdrained : targetsDrained v j = targetsDrained s j := by
    unfold targetsDrained
    rw [hsets, Bool.eq_iff_iff, List.all_eq_true, List.all_eq_true]
    refine forall₂_congr fun q hq => ?_
    have hsyncing : (s.plane q).state = .syncing := by
      rw [mem_planesOf, syncingTargets, inSet_and, Bool.and_eq_true, inSet_planesIn, beq_iff_eq] at hq
      exact hq.2
    obtain ⟨hlist, hqueue⟩ := (hsync he q).2 hsyncing
    rw [hlist, hqueue]
  rw [hslots, hdrained]
  exact h.1 j hj he

/-- No end is due where the engine stays, each DETACHING plane has an op, and the SYNCING planes keep their host writes (R13, R107). -/
theorem NothingDue.after {s v : State} (h : NothingDue s) (hw : v.sweep = s.sweep)
    (hd : ∀ q, (v.plane q).state = .detaching → (v.port q).isEmpty = false)
    (hsync : s.sweep.engine = .aborting → ∀ q, ((v.plane q).state = .syncing ↔ (s.plane q).state = .syncing) ∧
      ((s.plane q).state = .syncing → (v.port q).hostList.any Op.isHostWrite = (s.port q).hostList.any Op.isHostWrite ∧
        ((v.port q).queue.any fun x => x.op.isHostWrite) = (s.port q).queue.any fun x => x.op.isHostWrite)) : NothingDue v :=
  ⟨h.abort_after hw hsync, hd⟩

/-! ## The end of plane `p`'s oldest op, alone -/

/-- The end of plane `p`'s oldest op brings no other event with it: as in `OldestEnds`, or, for an OK end, with the plane in any state
that it keeps. -/
abbrev Alone (s : State) (p : PlaneId) (x : QueuedOp) (xs : List QueuedOp) (e : OpEnd) : Prop :=
  OldestEnds s p x xs e ∨ (e = .writeOk ∨ ∃ d, e = .readOk d) ∧ StaysInService s p xs ∧ OldestOp s p x xs ∧ NothingDue s ∧
    ((s.plane p).state = .syncing → s.sweep.engine ≠ .aborting ∨ x.op.isHostWrite = false)

theorem EndsAlone.alone {s : State} {p : PlaneId} {x : QueuedOp} {xs : List QueuedOp} {e : OpEnd} (h : EndsAlone s p x xs e) :
    Alone s p x xs e := by
  rcases h with h | ⟨he, hstay, hqueue, hhost, hsweep, hin, hdue, hsync⟩
  · exact .inl h
  · exact .inr ⟨.inl he, hstay, ⟨hqueue, hhost, hsweep, hin⟩, hdue, fun h => .inl (hsync h)⟩

section
variable {s v : State} {p : PlaneId} {x : QueuedOp} {xs : List QueuedOp} {e : OpEnd}

theorem endStart_port_of_ne {q : PlaneId} (h : q ≠ p) : (endStart p xs e s).port q = s.port q := by
  cases e with
  | lost =>
    refine Eq.trans ?_ ((State.setPort_port s p (s.port p).flushed q).trans (if_neg h))
    rfl
  | readOk | dataError | writeOk | writeError => exact (State.setPort_port s p _ q).trans (if_neg h)

theorem endStart_port_self (he : e ≠ .lost) : (endStart p xs e s).port p = { s.port p with queue := xs } := by
  cases e with
  | lost => exact absurd rfl he
  | readOk | dataError | writeOk | writeError => exact State.setPort_port_same s p _

theorem endStart_port_lost : (endStart p xs .lost s).port p = (s.port p).flushed := State.setPort_port_same _ p _

theorem endStart_planes (he : e ≠ .lost) : (endStart p xs e s).planes = s.planes := by
  cases e with
  | lost => exact absurd rfl he
  | readOk | dataError | writeOk | writeError => rfl

theorem endStart_plane_of_ne {q : PlaneId} (h : q ≠ p) : (endStart p xs e s).plane q = s.plane q := by
  cases e with
  | lost => exact (State.setPlane_plane s p _ q).trans (if_neg h)
  | readOk | dataError | writeOk | writeError => rfl

theorem endStart_lists (hh : (s.port p).hostList = []) (hs : (s.port p).sweepList = []) :
    ((endStart p xs e s).port p).hostList = [] ∧ ((endStart p xs e s).port p).sweepList = [] := by
  by_cases he : e = .lost
  · subst he
    rw [endStart_port_lost]
    exact ⟨rfl, rfl⟩
  · rw [endStart_port_self he]
    exact ⟨hh, hs⟩

/-- The plane manager's part writes plane and port of `p` alone. -/
theorem endCounted_frame : ∃ plane port, endCounted p e s v = (v.setPlane p plane).setPort p port ∧
    (plane.state = (v.plane p).state ∨ plane.state = .failed ∨ plane.state = (s.plane p).state) := by
  cases e with
  | dataError => exact ⟨_, v.port p, (State.setPort_self (v.setPlane p _) p _ rfl).symm, .inr (.inr rfl)⟩
  | writeError => exact ⟨_, _, rfl, .inr (.inl rfl)⟩
  | readOk | writeOk | lost =>
    refine ⟨v.plane p, v.port p, ?_, .inl rfl⟩
    simp [endCounted, State.setPlane, State.setPort, State.plane, State.port]

/-- The ports an end's acts leave: each as it was, or with ops issued on an ONLINE plane. -/
abbrev PortsIssued (u v : State) : Prop :=
  ∀ q, v.port q = u.port q ∨ (u.plane q).state = .online ∧ (v.port q).hostList = [] ∧ (v.port q).sweepList = []

/-- The event of an end that comes alone: the acts of the end, the plane manager's part, and what a failure does after them. -/
theorem exec_alone (data : LineData) (h : Alone s p x xs e) (hb : e.fits x.op.body)
    (hv : settleActs [.deliver x.op p e] (endStart p xs e s) = v) (hplanes : v.planes = (endStart p xs e s).planes)
    (hsweep : v.sweep = s.sweep) (hports : PortsIssued (endStart p xs e s) v)
    (hwrite : e = .writeError → v.ports = (endStart p xs e s).ports) :
    exec (endCommand s p x data e) s = .next (failureEnded p e (endCounted p e s v)) := by
  have hplane : ∀ q, v.plane q = (endStart p xs e s).plane q := fun q => by simp only [State.plane, hplanes]
  have hlistsOf : (s.port p).hostList = [] → (s.port p).sweepList = [] → (v.port p).hostList = [] ∧ (v.port p).sweepList = [] :=
    fun hh hs => by
      rcases hports p with hq | ⟨-, hq⟩
      · rw [hq]; exact endStart_lists hh hs
      · exact hq
  rcases h with h | ⟨he, hstay, hold, hdue, hsync⟩
  · obtain ⟨hon, -, hhost, hswp, -, hdue, -, hfail⟩ := id h
    obtain ⟨hlh, hls⟩ := hlistsOf hhost hswp
    refine exec_end e data h hb hv hplanes (fun hf => by rw [hsweep, (hfail hf).2]; exact nofun) hwrite hlh hls ?_
    obtain ⟨plane, port, hcounted, hstate⟩ := endCounted_frame (s := s) (v := v) (p := p) (e := e)
    have hpstate : (v.plane p).state = .online ∨ (v.plane p).state = .failed := by
      rw [hplane]
      by_cases hl : e = .lost
      · subst hl
        exact .inr (congrArg PlaneRec.state (State.setPlane_plane_same s p _))
      · exact .inl (by rw [show (endStart p xs e s).plane p = s.plane p by simp only [State.plane, endStart_planes hl]]; exact hon)
    have hself : ((endCounted p e s v).plane p).state = .online ∨ ((endCounted p e s v).plane p).state = .failed := by
      rw [hcounted, show ((v.setPlane p plane).setPort p port).plane p = plane from State.setPlane_plane_same v p plane]
      rcases hstate with hc | hc | hc <;> rw [hc]
      · exact hpstate
      · exact .inr rfl
      · exact .inl hon
    have hother : ∀ q, q ≠ p → (endCounted p e s v).plane q = s.plane q := fun q hq => by
      rw [hcounted]
      exact (State.setPlane_plane v p plane q).trans ((if_neg hq).trans ((hplane q).trans (endStart_plane_of_ne hq)))
    have hkept : ∀ q, (s.plane q).state ≠ .online → (endCounted p e s v).port q = s.port q := fun q hq => by
      have hqp : q ≠ p := fun hc => hq (hc ▸ hon)
      rw [hcounted]
      refine (State.setPort_port _ p port q).trans ((if_neg hqp).trans ?_)
      rcases hports q with hp' | ⟨hc, -⟩
      · exact hp'.trans (endStart_port_of_ne hqp)
      · rw [endStart_plane_of_ne hqp] at hc
        exact absurd hc hq
    have hdue' : NothingDue (endCounted p e s v) := by
      refine hdue.after (by rw [hcounted]; exact hsweep) (fun q hd => ?_) fun _ q => ?_
      · have hqp : q ≠ p := fun hc => by rw [hc] at hd; rcases hself with h | h <;> rw [h] at hd <;> cases hd
        rw [hother q hqp] at hd
        rw [hkept q (by rw [hd]; exact nofun)]
        exact hdue.2 q hd
      · by_cases hqp : q = p
        · subst hqp
          refine ⟨⟨fun hs => ?_, fun hs => ?_⟩, fun hs => ?_⟩
          · rcases hself with h | h <;> rw [h] at hs <;> cases hs
          · rw [hon] at hs; cases hs
          · rw [hon] at hs; cases hs
        · rw [hother q hqp]
          exact ⟨.rfl, fun hs => by rw [hkept q (by rw [hs]; exact nofun)]; exact ⟨rfl, rfl⟩⟩
    cases hf : e.failure with
    | none => rw [failureEnded_none p hf]; exact hdue'
    | some c => rw [failureEnded_some p hf]; exact hdue'.congr rfl (fun _ => rfl) rfl
  · obtain ⟨hqueue, hhost, hswp, hin⟩ := id hold
    obtain ⟨hlh, hls⟩ := hlistsOf hhost hswp
    have hne : e ≠ .lost := by rcases he with rfl | ⟨d, rfl⟩ <;> exact nofun
    have hplanes' : v.planes = s.planes := hplanes.trans (endStart_planes hne)
    have hplane' : ∀ q, v.plane q = s.plane q := fun q => by simp only [State.plane, hplanes']
    have hserv : (s.plane p).state.inService = true := by rcases hstay with h | h | ⟨h, -⟩ <;> rw [h] <;> rfl
    have hkept : ∀ q, (s.plane q).state ≠ .online → v.port q = if q = p then { s.port p with queue := xs } else s.port q := fun q hq => by
      rcases hports q with hp' | ⟨hc, -⟩
      · rw [hp']
        split
        · next hqp => rw [hqp]; exact endStart_port_self hne
        · next hqp => exact endStart_port_of_ne hqp
      · rw [show (endStart p xs e s).plane q = s.plane q by simp only [State.plane, endStart_planes hne]] at hc
        exact absurd hc hq
    have hdue' : NothingDue v := by
      refine hdue.after hsweep (fun q hd => ?_) fun hab q => ?_
      · rw [hplane'] at hd
        rw [hkept q (by rw [hd]; exact nofun)]
        split
        · next hqp =>
          subst hqp
          rw [Port.isEmpty_eq_false_iff]
          rcases hstay with h | h | ⟨-, h⟩
          · rw [h] at hd; cases hd
          · rw [h] at hd; cases hd
          · exact .inl h
        · exact hdue.2 q hd
      · rw [hplane']
        refine ⟨.rfl, fun hs => ?_⟩
        rw [hkept q (by rw [hs]; exact nofun)]
        split
        · next hqp =>
          subst hqp
          refine ⟨rfl, ?_⟩
          rw [hqueue, List.any_cons, (hsync hs).resolve_left fun h => h hab, Bool.false_or]
        · exact ⟨rfl, rfl⟩
    rcases he with rfl | ⟨d, rfl⟩
    · rw [failureEnded_none p rfl, ← hdue'.endOfEvent]
      exact congrArg Host.Outcome.next (takeResponse_ok false .writeOk hserv hold (by simpa [OpEnd.fits] using hb) (.inl rfl) hv hlh hls)
    · rw [failureEnded_none p rfl, ← hdue'.endOfEvent]
      refine congrArg Host.Outcome.next (takeResponse_ok true (.readOk d) hserv hold ?_ (.inr ⟨d, rfl⟩) hv hlh hls)
      rw [show x.op.body = .read from hb]
      rfl

/-! ## Ends that write only host records, locks, suspects and the log -/

/-- A state with lock table, host positions, tags, responses, suspects, log and sticky causes replaced. -/
abbrev State.noted (s : State) (locks : List LockEntry) (positions : Vector HostPos 32) (tags : Vector TagEntry 32)
    (responses : List Response) (suspects : List SuspectEntry) (log : DivLog) (sticky : CauseSet) : State :=
  { s with locks := locks, positions := positions, tags := tags, responses := responses, suspects := suspects, log := log, sticky := sticky }

theorem endCounted_noted (locks : List LockEntry) (positions : Vector HostPos 32) (tags : Vector TagEntry 32)
    (responses : List Response) (suspects : List SuspectEntry) (log : DivLog) (sticky : CauseSet) :
    endCounted p e s ((endStart p xs e s).noted locks positions tags responses suspects log sticky) =
      { (planeEnded p xs e s).noted locks positions tags responses suspects log sticky with out := {} } := by
  have h := endCounted_endStart p xs e s
  cases e with
  | writeError =>
    simp [endCounted, endStart, planeEnded, State.quiet, State.setPlane, State.setPort, Port.flushed]
  | readOk | dataError | writeOk | lost => rfl

/-- The event of an end whose acts write host records, locks, suspects and the log alone. -/
theorem exec_noted (data : LineData) (h : Alone s p x xs e) (hb : e.fits x.op.body) {locks : List LockEntry}
    {positions : Vector HostPos 32} {tags : Vector TagEntry 32} {responses : List Response} {suspects : List SuspectEntry} {log : DivLog}
    {sticky : CauseSet} (hv : settleActs [.deliver x.op p e] (endStart p xs e s) =
      (endStart p xs e s).noted locks positions tags responses suspects log sticky) :
    exec (endCommand s p x data e) s =
      .next { failureEnded p e ((planeEnded p xs e s).noted locks positions tags responses suspects log sticky) with out := {} } := by
  rw [exec_alone data h hb hv rfl (by rw [endStart_eq]) (fun _ => .inl rfl) (fun _ => rfl), endCounted_noted, failureEnded_out]

end

end Sys2Proof.Machine
end

section
/-! PROOFS. The ends of host write ops: a WRITE's own, live or answered or orphan, and a READ's repair write. -/

namespace Sys2Proof.Machine

/-! ## An end that comes alone, by the fields its acts write -/

section
variable {s v : State} {p : PlaneId} {x : QueuedOp} {xs : List QueuedOp} {e : OpEnd}

/-- The event of an end that comes alone, where its acts leave `v` and write host records, locks, suspects and the log alone. -/
theorem exec_fields (data : LineData) (h : Alone s p x xs e) (hb : e.fits x.op.body)
    (hv : settleActs [.deliver x.op p e] (endStart p xs e s) = v)
    (hn : v = (endStart p xs e s).noted v.locks v.positions v.tags v.responses v.suspects v.log v.sticky) :
    exec (endCommand s p x data e) s = .next { failureEnded p e
      ((planeEnded p xs e s).noted v.locks v.positions v.tags v.responses v.suspects v.log v.sticky) with out := {} } :=
  exec_noted data h hb (hv.trans hn)

/-- The host side stands before the acts of an end as in the state the event meets. -/
theorem endStart_host : (endStart p xs e s).locks = s.locks ∧ (endStart p xs e s).positions = s.positions ∧
    (endStart p xs e s).tags = s.tags ∧ (endStart p xs e s).responses = s.responses ∧ (endStart p xs e s).suspects = s.suspects ∧
    (endStart p xs e s).log = s.log ∧ (endStart p xs e s).sticky = s.sticky := by
  cases e <;> exact ⟨rfl, rfl, rfl, rfl, rfl, rfl, rfl⟩

theorem endStart_position (t : Tag) : (endStart p xs e s).position t = s.position t := by
  cases e <;> rfl

theorem endStart_tag (t : Tag) : (endStart p xs e s).tag t = s.tag t := by
  cases e <;> rfl

end

/-! ## The release of a line held alone -/

theorem LineAlone.release {s : State} {t : Tag} {line : Nat} (h : LineAlone s t line) :
    lockRelease (.host t) s.locks = (s.locks.filter fun y => y.line != line, []) := by
  obtain ⟨hn, ⟨e, he, rfl, hh, hw⟩, hown⟩ := h
  obtain ⟨a, b, hab⟩ := List.append_of_mem he
  obtain ⟨ha, hfilter⟩ := filter_line_split (hab ▸ hn)
  rw [hab, hfilter]
  exact lockRelease_alone _ a b e (fun y hy hc => ha y hy (hown y (hab ▸ List.mem_append_left _ hy) hc)) hh hw

/-- The release that an end brings where it is the last one. -/
theorem settleActs_release_if {z : State} {t : Tag} {l : List LockEntry} (c : Prop) [Decidable c]
    (hl : lockRelease (.host t) z.locks = (l, [])) (hb : (z.position t).heldBack = none) :
    settleActs (if c then [.release (.host t)] else []) z =
      if c then { z.setPosition t { kept := none, heldBack := none } with locks := l } else z := by
  split
  · exact settleActs_release hl hb
  · exact settleActs_nil z

/-! ## Delivery to a host position -/

section
variable {u : State} {t : Tag} {r : Request} {line : Nat} {body : OpBody} {p : PlaneId} {e : OpEnd}

theorem settleActs_deliver_write {w : WriteRec} (hr : requestAt u t = some r) (hw : r.work = some (.write w)) :
    settleActs [.deliver { owner := .host t, line := line, body := body } p e] u =
      settleActs (endWrite t r w p e u).2 (endWrite t r w p e u).1 := by
  have hperform : perform (.deliver { owner := .host t, line := line, body := body } p e) u = endWrite t r w p e u := by
    unfold perform deliverEnd
    simp only [hr, hw]
  rw [settleActs_cons, hperform, List.append_nil]

theorem settleActs_deliver_read {x : ReadRec} (hr : requestAt u t = some r) (hw : r.work = some (.read x)) :
    settleActs [.deliver { owner := .host t, line := line, body := .read } p e] u =
      settleActs (endRead t r x p e u).2 (endRead t r x p e u).1 := by
  have hperform : perform (.deliver { owner := .host t, line := line, body := .read } p e) u = endRead t r x p e u := by
    unfold perform deliverEnd
    simp only [hr, hw]
  rw [settleActs_cons, hperform, List.append_nil]

theorem settleActs_deliver_repair {x : ReadRec} {mask : ByteMask} {d : LineData} (hr : requestAt u t = some r)
    (hw : r.work = some (.read x)) : settleActs [.deliver { owner := .host t, line := line, body := .write mask d } p e] u =
      settleActs (endRepair t r x p u).2 (endRepair t r x p u).1 := by
  have hperform : perform (.deliver { owner := .host t, line := line, body := .write mask d } p e) u = endRepair t r x p u := by
    unfold perform deliverEnd
    simp only [hr, hw]
  rw [settleActs_cons, hperform, List.append_nil]

end

/-! ## What a WRITE's op end writes -/

/-- The suspect table, the log and the sticky causes after a WRITE's op end (R56, R59). -/
def writeNoted (t : Tag) (r : Request) (w : WriteRec) (p : PlaneId) (e : OpEnd) (s : State) : State :=
  { s with
    suspects := if removesSuspect w e then s.suspects.filter fun y => y.line != r.line else s.suspects
    log := if e = .writeOk then s.log else s.log.posted (hostRecord t r .writeLost (onePlane p) .lost)
    sticky := if e = .writeOk then s.sticky else s.log.alarmed (hostRecord t r .writeLost (onePlane p) .lost) s.sticky }

/-- The write record after an op end, with the suspect removal it takes (R54, R59). -/
def WriteRec.after (w : WriteRec) (p : PlaneId) (e : OpEnd) : WriteRec :=
  { w.ended p e with suspectDone := w.suspectDone || removesSuspect w e }

theorem endWrite_eq (t : Tag) (r : Request) (w : WriteRec) (p : PlaneId) (e : OpEnd) (s : State) : endWrite t r w p e s =
    (answerWrite t r (w.after p e) e (writeNoted t r w p e (setRequest t (r.withWrite (w.after p e)) s)),
      if (w.after p e).outstanding = 0 then [.release (.host t)] else []) := by
  refine congrArg (fun u => (answerWrite t r (w.after p e) e u, if (w.after p e).outstanding = 0 then [Act.release (.host t)] else [])) ?_
  show (if e = .writeOk then _ else postRecord _ _) = _
  unfold writeNoted
  rw [postRecord_eq]
  show (if e = .writeOk then (if removesSuspect w e = true then removeSuspect r.line _ else _) else _) = _
  split <;> split <;> rfl

/-- As the statement writes what an end notes. -/
theorem writeNoted_eq (t : Tag) (r : Request) (w : WriteRec) (p : PlaneId) (e : OpEnd) (s : State) (he : e = .writeOk ∨ e = .writeError ∨ e = .lost) :
    writeNoted t r w p e s = if e = .writeOk then { s with
        suspects := if w.mask = BitVec.allOnes 64 ∧ w.suspectDone = false then s.suspects.filter fun y => y.line != r.line else s.suspects }
      else postRecord (hostRecord t r .writeLost (onePlane p) .lost) s := by
  unfold writeNoted
  rcases he with rfl | rfl | rfl
  · simp [removesSuspect, fullMask]
  · simp [removesSuspect, postRecord_eq]
  · simp [removesSuspect, postRecord_eq]

theorem WriteRec.after_eq (w : WriteRec) (p : PlaneId) (e : OpEnd) (he : e = .writeOk ∨ e = .writeError ∨ e = .lost) :
    w.after p e = { w with
      outstanding := dropPlane w.outstanding p
      endedOk := if e = .writeOk then addPlane w.endedOk p else w.endedOk
      endedErred := if e = .writeError then addPlane w.endedErred p else w.endedErred
      endedLost := if e = .lost then addPlane w.endedLost p else w.endedLost
      suspectDone := w.suspectDone || (e == .writeOk && w.mask == BitVec.allOnes 64) } := by
  unfold WriteRec.after WriteRec.ended removesSuspect fullMask
  rcases he with rfl | rfl | rfl
  · cases w.suspectDone <;> simp
  · simp [show (OpEnd.writeError == OpEnd.writeOk) = false from beq_eq_false_iff_ne.mpr nofun]
  · simp [show (OpEnd.lost == OpEnd.writeOk) = false from beq_eq_false_iff_ne.mpr nofun]

theorem WriteRec.after_status (w : WriteRec) (p : PlaneId) (e : OpEnd) :
    (w.after p e).response = w.response ∧ (w.after p e).orphan = w.orphan := by
  cases e <;> exact ⟨rfl, rfl⟩

/-! ## A WRITE's op end -/

section
variable {u : State} {t : Tag} {r : Request} {line : Nat} {body : OpBody} {p : PlaneId} {e : OpEnd} {w : WriteRec} {l : List LockEntry}

theorem answerWrite_silent {w : WriteRec} (h : w.orphan = true ∨ w.response ≠ none) (z : State) : answerWrite t r w e z = z := by
  unfold answerWrite
  rw [if_neg]
  rintro ⟨hr, ho⟩
  rcases h with h | h
  · rw [ho] at h; cases h
  · exact h hr

theorem answerWrite_open {w : WriteRec} (hs : writeStatus r.attrs.ack w e = none) (z : State) : answerWrite t r w e z = z := by
  unfold answerWrite
  rw [hs]
  exact ite_self z

theorem answerWrite_answers {w : WriteRec} {st : Status} (hr : w.response = none) (ho : w.orphan = false)
    (hs : writeStatus r.attrs.ack w e = some st) (z : State) : answerWrite t r w e z = produce t st 0 z := by
  unfold answerWrite
  rw [hs]
  exact if_pos ⟨hr, ho⟩

/-- The end of an op of an orphan or an answered WRITE whose record stands at the host position. -/
theorem write_end_kept (hpos : u.position t = { kept := some r, heldBack := none }) (hw : r.work = some (.write w))
    (hs : w.orphan = true ∨ w.response ≠ none) (hl : lockRelease (.host t) u.locks = (l, [])) :
    settleActs [.deliver { owner := .host t, line := line, body := body } p e] u = writeNoted t r w p e
      (if (w.after p e).outstanding = 0 then { u.setPosition t { kept := none, heldBack := none } with locks := l }
        else u.setPosition t { kept := some (r.withWrite (w.after p e)), heldBack := none }) := by
  obtain ⟨hresponse, horphan⟩ := w.after_status p e
  rw [settleActs_deliver_write (requestAt_kept (by rw [hpos])) hw, endWrite_eq, answerWrite_silent (by rw [hresponse, horphan]; exact hs),
    setRequest_kept (by rw [hpos]), hpos]
  dsimp only
  generalize hz : writeNoted t r w p e (u.setPosition t { kept := some (r.withWrite (w.after p e)), heldBack := none }) = z
  have hzl : lockRelease (.host t) z.locks = (l, []) := by rw [← hz]; exact hl
  have hzp : z.position t = { kept := some (r.withWrite (w.after p e)), heldBack := none } := by
    rw [← hz]; exact State.setPosition_position_same u t _
  rw [settleActs_release_if _ hzl (by rw [hzp])]
  split
  · rw [← hz]
    simp [writeNoted, State.setPosition]
  · exact hz.symm

/-- The end of an op of a WRITE whose response waits in the queue. -/
theorem write_end_queued {st : Status} (hpos : u.position t = { kept := none, heldBack := none }) (htag : u.tag t = .queued r st)
    (hw : r.work = some (.write w)) (hs : w.response ≠ none) (hl : lockRelease (.host t) u.locks = (l, [])) :
    settleActs [.deliver { owner := .host t, line := line, body := body } p e] u = writeNoted t r w p e
      { u.setTag t (.queued (r.withWrite (w.after p e)) st) with
        locks := if (w.after p e).outstanding = 0 then l else u.locks } := by
  obtain ⟨hresponse, -⟩ := w.after_status p e
  have hreq : requestAt u t = some r := by
    unfold requestAt
    rw [hpos, htag]
    rfl
  rw [settleActs_deliver_write hreq hw, endWrite_eq, answerWrite_silent (by rw [hresponse]; exact .inr hs),
    setRequest_queued (by rw [hpos]) htag]
  dsimp only
  generalize hz : writeNoted t r w p e (u.setTag t (.queued (r.withWrite (w.after p e)) st)) = z
  have hzl : lockRelease (.host t) z.locks = (l, []) := by rw [← hz]; exact hl
  have hzp : z.position t = { kept := none, heldBack := none } := by rw [← hz]; exact hpos
  rw [settleActs_release_if _ hzl (by rw [hzp]), State.setPosition_self z t _ hzp]
  split <;> (rw [← hz]; rfl)

/-- The end of an op of a live WRITE that settles no status. -/
theorem write_end_open (hpos : u.position t = { kept := none, heldBack := none }) (htag : u.tag t = .inWork r)
    (hw : r.work = some (.write w)) (hs : writeStatus r.attrs.ack (w.after p e) e = none) (hout : (w.after p e).outstanding ≠ 0) :
    settleActs [.deliver { owner := .host t, line := line, body := body } p e] u = writeNoted t r w p e
      (u.setTag t (.inWork (r.withWrite (w.after p e)))) := by
  rw [settleActs_deliver_write (requestAt_live (by rw [hpos]) htag) hw, endWrite_eq, answerWrite_open hs,
    setRequest_live (by rw [hpos]) htag, if_neg hout]
  exact settleActs_nil _

/-- The end of an op of a live WRITE that settles its status. -/
theorem write_end_answers {st : Status} (hpos : u.position t = { kept := none, heldBack := none }) (htag : u.tag t = .inWork r)
    (hw : r.work = some (.write w)) (hr : w.response = none) (ho : w.orphan = false)
    (hs : writeStatus r.attrs.ack (w.after p e) e = some st) (hl : lockRelease (.host t) u.locks = (l, [])) :
    settleActs [.deliver { owner := .host t, line := line, body := body } p e] u = writeNoted t r w p e
      { u.setTag t (.queued (r.withWrite { w.after p e with response := some st }) st) with
        responses := u.responses ++ [{ kind := r.kind, tag := t, status := st, data := 0 }]
        locks := if (w.after p e).outstanding = 0 then l else u.locks } := by
  obtain ⟨hresponse, horphan⟩ := w.after_status p e
  rw [settleActs_deliver_write (requestAt_live (by rw [hpos]) htag) hw, endWrite_eq,
    answerWrite_answers (hresponse.trans hr) (horphan.trans ho) hs, setRequest_live (by rw [hpos]) htag]
  dsimp only
  generalize hz : writeNoted t r w p e (u.setTag t (.inWork (r.withWrite (w.after p e)))) = z
  have htz : z.tag t = .inWork (r.withWrite (w.after p e)) := by rw [← hz]; exact State.setTag_tag_same u t _
  rw [produce_live st 0 htz]
  generalize hy : ({ z.setTag t (.queued ((r.withWrite (w.after p e)).answered st) st) with
    responses := z.responses ++ [{ kind := (r.withWrite (w.after p e)).kind, tag := t, status := st, data := 0 }] } : State) = y
  have hyl : lockRelease (.host t) y.locks = (l, []) := by rw [← hy, ← hz]; exact hl
  have hyp : y.position t = { kept := none, heldBack := none } := by rw [← hy, ← hz]; exact hpos
  rw [settleActs_release_if _ hyl (by rw [hyp]), State.setPosition_self y t _ hyp]
  split <;> rw [← hy, ← hz] <;> simp [writeNoted, State.setTag, Request.withWrite, Request.answered]

end

/-! ## A READ's repair write -/

section
variable {u : State} {t : Tag} {r : Request} {line : Nat} {mask : ByteMask} {d : LineData} {p : PlaneId} {e : OpEnd} {x : ReadRec}
  {l : List LockEntry}

/-- The read record after the end of a repair write (R80). -/
abbrev ReadRec.repaired (x : ReadRec) (p : PlaneId) : ReadRec := { x with repairsOut := dropPlane x.repairsOut p }

theorem repair_end_kept (hpos : u.position t = { kept := some r, heldBack := none }) (hw : r.work = some (.read x))
    (hl : lockRelease (.host t) u.locks = (l, [])) :
    settleActs [.deliver { owner := .host t, line := line, body := .write mask d } p e] u =
      if (x.repaired p).repairsOut = 0 ∧ (x.repaired p).outstanding = 0 then
        { u.setPosition t { kept := none, heldBack := none } with locks := l }
      else u.setPosition t { kept := some (r.withRead (x.repaired p)), heldBack := none } := by
  rw [settleActs_deliver_repair (requestAt_kept (by rw [hpos])) hw]
  unfold endRepair
  dsimp only
  rw [setRequest_kept (by rw [hpos]), hpos]
  generalize hz : u.setPosition t { kept := some (r.withRead (x.repaired p)), heldBack := none } = z
  have hzl : lockRelease (.host t) z.locks = (l, []) := by rw [← hz]; exact hl
  have hzp : z.position t = { kept := some (r.withRead (x.repaired p)), heldBack := none } := by
    rw [← hz]; exact State.setPosition_position_same u t _
  rw [settleActs_release_if _ hzl (by rw [hzp])]
  split
  · rw [← hz]
    simp [State.setPosition]
  · rfl

theorem repair_end_queued {st : Status} (hpos : u.position t = { kept := none, heldBack := none }) (htag : u.tag t = .queued r st)
    (hw : r.work = some (.read x)) (hl : lockRelease (.host t) u.locks = (l, [])) :
    settleActs [.deliver { owner := .host t, line := line, body := .write mask d } p e] u =
      { u.setTag t (.queued (r.withRead (x.repaired p)) st) with
        locks := if (x.repaired p).repairsOut = 0 ∧ (x.repaired p).outstanding = 0 then l else u.locks } := by
  have hreq : requestAt u t = some r := by
    unfold requestAt
    rw [hpos, htag]
    rfl
  rw [settleActs_deliver_repair hreq hw]
  unfold endRepair
  dsimp only
  rw [setRequest_queued (by rw [hpos]) htag]
  generalize hz : u.setTag t (.queued (r.withRead (x.repaired p)) st) = z
  have hzl : lockRelease (.host t) z.locks = (l, []) := by rw [← hz]; exact hl
  have hzp : z.position t = { kept := none, heldBack := none } := by rw [← hz]; exact hpos
  rw [settleActs_release_if _ hzl (by rw [hzp]), State.setPosition_self z t _ hzp]
  split
  · rw [← hz]
  · rw [← hz]; rfl

end

/-- The status a WRITE's op end settles, as the statement lists it (R57, R58). -/
theorem writeStatus_eq_some {ack : WriteAck} {w : WriteRec} {e : OpEnd} {st : Status}
    (h : ack = .first ∧ (e = .writeOk ∧ st = .ok ∨ e ≠ .writeOk ∧ w.outstanding = 0 ∧ w.endedOk = 0 ∧ st = .noPlane) ∨
      ack = .all ∧ w.outstanding = 0 ∧ (w.endedOk = 0 ∧ st = .noPlane ∨ w.endedOk ≠ 0 ∧ w.endedErred ||| w.endedLost = 0 ∧ st = .ok ∨
        w.endedOk ≠ 0 ∧ w.endedErred ||| w.endedLost ≠ 0 ∧ st = .recovered)) : writeStatus ack w e = some st := by
  have hor : w.endedErred ||| w.endedLost = 0 ↔ w.endedErred = 0 ∧ w.endedLost = 0 := by
    generalize w.endedErred = a
    generalize w.endedLost = b
    revert a b
    decide
  unfold writeStatus
  rcases h with ⟨rfl, ⟨he, rfl⟩ | ⟨he, h0, hok, rfl⟩⟩ | ⟨rfl, h0, ⟨hok, rfl⟩ | ⟨hok, hbad, rfl⟩ | ⟨hok, hbad, rfl⟩⟩ <;> dsimp only
  · rw [if_pos he]
  · rw [if_neg he, if_pos ⟨h0, hok⟩]
  · rw [if_pos h0, if_pos hok]
  · rw [if_pos h0, if_neg hok, if_pos (hor.mp hbad)]
  · rw [if_pos h0, if_neg hok, if_neg fun h => hbad (hor.mpr h)]

theorem writeStatus_eq_none {ack : WriteAck} {w : WriteRec} {e : OpEnd} (h0 : w.outstanding ≠ 0) (h : ack = .all ∨ e ≠ .writeOk) :
    writeStatus ack w e = none := by
  unfold writeStatus
  cases ack with
  | all => exact if_neg h0
  | first =>
    have he : e ≠ .writeOk := h.resolve_left nofun
    dsimp only
    rw [if_neg he, if_neg fun hc => h0 hc.1]

/-- Settles O51, by where the record stands and what the end settles. -/
theorem writeEndOk : Obligations.WriteEndOk := by
  intro p t x xs r e mask d s he hends hline hx run base released kept
  have hrel : lockRelease (.host t) (endStart p xs e s).locks = (released, []) := by
    rw [endStart_host.1]
    exact hline.release
  have hfits : e.fits x.op.body := by
    rw [hx]
    rcases he with rfl | rfl | rfl
    · exact nofun
    · exact nofun
    · trivial
  have hpos : (endStart p xs e s).position t = s.position t := endStart_position t
  have htag : (endStart p xs e s).tag t = s.tag t := endStart_tag t
  have hrun := fun v => exec_fields (v := v) 0 (EndsAlone.alone hends) hfits
  rw [hx] at hrun
  refine ⟨fun w hw => ?write, fun rec_ hw => ?repair⟩
  case write =>
    intro w1 after entered ended
    have hw1 : w.after p e = w1 := w.after_eq p e he
    have hafter : ∀ u : State, u.suspects = s.suspects → after u = failureEnded p e (writeNoted t r w p e u) := fun u hu => by
      rw [writeNoted_eq t r w p e u he, hu]
      rfl
    have hbase : base.suspects = s.suspects := by rcases he with rfl | rfl | rfl <;> rfl
    have hentered : ∀ entry responses, after (entered entry responses) =
        failureEnded p e (writeNoted t r w p e (entered entry responses)) := fun _ _ => hafter _ hbase
    refine ⟨fun hp hs => ?_, fun st hp ht hs => ?_, fun hp ht hk ho hr => ⟨fun hout hack => ?_, fun st hst => ?_⟩⟩
    · rw [hp] at hpos
      have hend := write_end_kept (p := p) (e := e) (line := r.line) (body := .write mask d) hpos hw hs hrel
      rw [hw1] at hend
      rw [hafter _ (by simp only [kept]; split <;> exact hbase)]
      refine (hrun _ hend ?_).trans ?_
      · split <;> rfl
      · simp only [kept, beq_iff_eq]
        split <;> rcases he with rfl | rfl | rfl <;> rfl
    · rw [hp] at hpos
      rw [ht] at htag
      have hend := write_end_queued (p := p) (e := e) (line := r.line) (body := .write mask d) hpos htag hw hs hrel
      rw [hw1] at hend
      rw [hentered]
      refine (hrun _ hend rfl).trans ?_
      rcases he with rfl | rfl | rfl <;> rfl
    · rw [hp] at hpos
      rw [ht] at htag
      rw [← hw1] at hout
      have hend := write_end_open (p := p) (line := r.line) (body := .write mask d) hpos htag hw (writeStatus_eq_none hout hack) hout
      rw [hw1] at hend hout
      rw [hentered]
      refine (hrun _ hend rfl).trans ?_
      simp only [entered, if_neg hout]
      have hended : r.withWrite w1 = ended none := by rw [← hr]; rfl
      rw [hended]
      rcases he with rfl | rfl | rfl <;> rfl
    · rw [hp] at hpos
      rw [ht] at htag
      have hend := write_end_answers (p := p) (e := e) (line := r.line) (body := .write mask d) (st := st) hpos htag hw hr ho
        (by rw [hw1]; exact writeStatus_eq_some hst) hrel
      rw [hw1, hk] at hend
      rw [hentered]
      refine (hrun _ hend rfl).trans ?_
      rcases he with rfl | rfl | rfl <;> rfl
  case repair =>
    intro rec1
    refine ⟨fun hp => ?_, fun st hp ht => ?_⟩
    · rw [hp] at hpos
      have hend := repair_end_kept (p := p) (e := e) (line := r.line) (mask := mask) (d := d) hpos hw hrel
      refine (hrun _ hend ?_).trans ?_
      · split <;> rfl
      · simp only [kept, Bool.and_eq_true, beq_iff_eq]
        split <;> rcases he with rfl | rfl | rfl <;> rfl
    · rw [hp] at hpos
      rw [ht] at htag
      have hend := repair_end_queued (p := p) (e := e) (line := r.line) (mask := mask) (d := d) hpos htag hw hrel
      refine (hrun _ hend rfl).trans ?_
      rcases he with rfl | rfl | rfl <;> rfl

end Sys2Proof.Machine
end

section
/-! PROOFS. The ends of host read ops: what a READ does at each settlement, and the SINGLE and COMPARE READs and the orphans by it. -/

namespace Sys2Proof.Machine

/-! ## The settlements of a READ -/

/-- A READ with its response in the queue. -/
def readAnswered (t : Tag) (r : Request) (x : ReadRec) (st : Status) (d : LineData) (u : State) : State :=
  { u.setTag t (.queued (r.withRead x) st) with
    responses := u.responses ++ [{ kind := .read, tag := t, status := st, data := d }] }

section
variable {u : State} {t : Tag} {r : Request} {x : ReadRec} {st : Status} {d : LineData} {kind : RecKind} {planes : PlaneSet}
  {l : List LockEntry}

/-- A response and the record that goes with it (R154, R161). -/
theorem setRequest_produce {x' : ReadRec} (hp : (u.position t).kept = none) (ht : u.tag t = .inWork r) (hk : r.kind = .read) :
    setRequest t (r.withRead x') (produce t st d u) = readAnswered t r x' st d u := by
  rw [produce_live st d ht]
  generalize hz : ({ u.setTag t (.queued (r.answered st) st) with
    responses := u.responses ++ [{ kind := r.kind, tag := t, status := st, data := d }] } : State) = z
  have htz : z.tag t = .queued (r.answered st) st := by rw [← hz]; exact State.setTag_tag_same u t _
  have hpz : (z.position t).kept = none := by rw [← hz]; exact hp
  rw [setRequest_queued hpz htz, ← hz, hk]
  simp [readAnswered, State.setTag]

/-- The release of the line after a settlement that writes no lock and no host position. -/
theorem settleActs_release_free {z : State} (hl : lockRelease (.host t) z.locks = (l, []))
    (hp : z.position t = { kept := none, heldBack := none }) :
    settleActs [.release (.host t)] z = { z with locks := l } := by
  rw [settleActs_release hl (by rw [hp]), State.setPosition_self z t _ hp]

/-- A READ served without a repair (R71, R76, R78). -/
theorem settle_serve (hp : u.position t = { kept := none, heldBack := none }) (ht : u.tag t = .inWork r) (hk : r.kind = .read)
    (hrep : repairPlanes u r st planes = 0) (hl : lockRelease (.host t) u.locks = (l, [])) :
    settleActs (serve t r x d st kind planes u).2 (serve t r x d st kind planes u).1 =
      { (if planes = 0 then readAnswered t r { x with response := some st, repairSet := 0, repairsOut := 0, pendingRecord := none } st d u
        else postRecord (hostRecord t r kind planes (if kind = .mismatch then .majorityServed else .served))
          (readAnswered t r { x with response := some st, repairSet := 0, repairsOut := 0, pendingRecord := none } st d u)) with
        locks := l } := by
  have hserve : serve t r x d st kind planes u = ((if planes = 0 then
        readAnswered t r { x with response := some st, repairSet := 0, repairsOut := 0, pendingRecord := none } st d u
      else postRecord (hostRecord t r kind planes (if kind = .mismatch then .majorityServed else .served))
        (readAnswered t r { x with response := some st, repairSet := 0, repairsOut := 0, pendingRecord := none } st d u)),
      [.release (.host t)]) := by
    unfold serve
    dsimp only
    rw [hrep, setRequest_produce (by rw [hp]) ht hk, show placeOps (copyWrite (.host t) r.line d) 0 = id from rfl]
    rfl
  rw [hserve]
  refine settleActs_release_free ?_ ?_
  · split
    · exact hl
    · rw [postRecord_eq]; exact hl
  · split
    · exact hp
    · rw [postRecord_eq]; exact hp

/-- A READ served with repair writes keeps its line (R79). -/
theorem settle_serve_repairs {g : PlaneSet} (hp : (u.position t).kept = none) (ht : u.tag t = .inWork r) (hk : r.kind = .read)
    (hrep : repairPlanes u r st planes = g) (hg : g ≠ 0) (hplanes : planes ≠ 0) :
    settleActs (serve t r x d st kind planes u).2 (serve t r x d st kind planes u).1 =
      postRecord (hostRecord t r kind planes .repaired) (placeOps (copyWrite (.host t) r.line d) g
        (readAnswered t r { x with response := some st, repairSet := g, repairsOut := g, pendingRecord := none } st d u)) := by
  unfold serve
  dsimp only
  rw [hrep, setRequest_produce hp ht hk, if_neg hg, if_neg hg, if_neg hplanes]
  exact settleActs_nil _

/-- A READ answered POISON, its line marked suspect (R74, R76, R81 to R83). -/
theorem settle_poison {reason : SuspectReason} {g : PlaneSet} (hp : u.position t = { kept := none, heldBack := none })
    (ht : u.tag t = .inWork r) (hk : r.kind = .read) (hl : lockRelease (.host t) u.locks = (l, []))
    (hroom : u.suspects.length < 16) (hfree : ∀ y ∈ u.suspects, y.line ≠ r.line) :
    settleActs (poison t r x reason g kind planes u).2 (poison t r x reason g kind planes u).1 =
      { postRecord (hostRecord t r kind planes .unresolved)
          { readAnswered t r { x with response := some .poison, pendingRecord := none } .poison 0 u with
            suspects := u.suspects ++ [{ line := r.line, reason := reason, planes := g }] } with
        locks := l } := by
  have hput : suspectPut { line := r.line, reason := reason, planes := g } u.suspects =
      some (u.suspects ++ [{ line := r.line, reason := reason, planes := g }]) := by
    rw [suspectPut_of_line_free _ _ hfree, if_pos hroom]
  unfold poison
  dsimp only
  rw [setRequest_produce (by rw [hp]) ht hk, addSuspect_of_put _ (readAnswered t r _ .poison 0 u) _ hput]
  refine settleActs_release_free ?_ ?_
  · rw [postRecord_eq]; exact hl
  · rw [postRecord_eq]; exact hp

/-- A READ answered NO_PLANE (R74, R76). -/
theorem settle_noPlane (hp : u.position t = { kept := none, heldBack := none }) (ht : u.tag t = .inWork r) (hk : r.kind = .read)
    (hl : lockRelease (.host t) u.locks = (l, [])) :
    settleActs (readNoPlane t (setRequest t (r.withRead x) u)).2 (readNoPlane t (setRequest t (r.withRead x) u)).1 =
      { readAnswered t r { x with response := some .noPlane } .noPlane 0 u with locks := l } := by
  unfold readNoPlane
  dsimp only
  rw [setRequest_live (by rw [hp]) ht]
  generalize hz : u.setTag t (.inWork (r.withRead x)) = z
  have htz : z.tag t = .inWork (r.withRead x) := by rw [← hz]; exact State.setTag_tag_same u t _
  have hpz : z.position t = { kept := none, heldBack := none } := by rw [← hz]; exact hp
  rw [settleActs_answered .noPlane 0 hpz htz (by rw [← hz]; exact hl), ← hz]
  simp [readAnswered, State.setTag, Request.withRead, Request.answered, hk]

/-- A SINGLE READ asks a plane that issues at once (R70). -/
theorem askPlane_issues {q : PlaneId} (hp : (u.position t).kept = none) (ht : u.tag t = .inWork r) (hq : IssuesAtOnce u q) :
    askPlane t r x q u = issuedTo (readOp t r.line)
      (u.setTag t (.inWork (r.withRead { x with tried := addPlane x.tried q, outstanding := addPlane x.outstanding q }))) q := by
  unfold askPlane
  rw [setRequest_live hp ht]
  exact placeOp_issues _ _ q hq

end

/-! ## The record after a read end -/

/-- As the statements write the record after a read end (R71 to R75). -/
theorem ReadRec.ended_eq (x : ReadRec) (p : PlaneId) (e : OpEnd) (data : LineData) (he : e = .readOk data ∨ e = .dataError ∨ e = .lost) :
    x.ended p e = { x with
      outstanding := dropPlane x.outstanding p
      copies := if e = .readOk data then x.copies ++ [(p, data)] else x.copies
      erred := if e = .dataError then addPlane x.erred p else x.erred
      lost := if e = .lost then addPlane x.lost p else x.lost
      pendingRecord := if e = .dataError then some (addPlane (x.pendingRecord.getD 0) p) else x.pendingRecord } := by
  rcases he with rfl | rfl | rfl
  · unfold ReadRec.ended; simp
  · unfold ReadRec.ended growPending; simp
  · unfold ReadRec.ended; simp

theorem OpEnd.fits_read {e : OpEnd} {data : LineData} (he : e = .readOk data ∨ e = .dataError ∨ e = .lost) : e.fits .read := by
  rcases he with rfl | rfl | rfl
  · exact rfl
  · exact rfl
  · trivial

theorem copyWrite_takes (now : Nat) (t : Tag) (line : Nat) (d : LineData) (q : Port) : Port.takes now (copyWrite (.host t) line d) q =
    q.withIssued now { owner := .host t, line := line, body := .write (BitVec.allOnes 64) d } := rfl

theorem planeSet_ne_zero {g : PlaneSet} {p : PlaneId} (h : inSet g p = true) : g ≠ 0 := fun h0 => by
  rw [h0, show (0 : PlaneSet) = 0#4 from rfl, inSet_zero] at h
  cases h

/-! ## The OK end of a SINGLE READ -/

/-- The drain of the one plane whose drain is due is the end of the event (R13). -/
theorem foldl_drainPlane_due (s : State) (p : PlaneId) (h : ∀ q, q ≠ p → (s.plane q).state = .detaching → (s.port q).isEmpty = false) :
    allPlanes.foldl drainPlane s = drainPlane s p := by
  obtain ⟨l, m, hlm⟩ := List.append_of_mem (mem_allPlanes p)
  have hnodup : (l ++ p :: m).Nodup := hlm ▸ (by decide : allPlanes.Nodup)
  obtain ⟨-, hm, hdisjoint⟩ := List.nodup_append.mp hnodup
  rw [hlm, List.foldl_append, List.foldl_cons, foldl_drainPlane_eq l s fun q hq =>
    h q (hdisjoint q hq p List.mem_cons_self), foldl_drainPlane_eq m _ fun q hq hd => ?_]
  have hqp : q ≠ p := fun he => (List.nodup_cons.mp hm).1 (he ▸ hq)
  rw [drainPlane_plane_of_ne s hqp] at hd
  rcases drainPlane_cases s p with he | ⟨-, -, he⟩ <;> rw [he] <;> exact h q hqp hd

theorem repairPlanes_eq (s : State) (r : Request) (g : PlaneSet) (h : r.attrs.repair = true) (p : PlaneId) :
    inSet (repairPlanes s r .recovered g) p = true ↔ inSet g p = true ∧ (s.plane p).state = .online := by
  unfold repairPlanes
  rw [if_pos ⟨rfl, h⟩]
  simp

theorem repairPlanes_none (s : State) (r : Request) (st : Status) (g : PlaneSet)
    (h : r.attrs.repair = false ∨ ∀ q, inSet g q = true → (s.plane q).state ≠ .online) : repairPlanes s r st g = 0 := by
  unfold repairPlanes
  split
  · next hc =>
    refine planeSet_ext _ _ fun q => ?_
    have hg := h.resolve_left (by rw [hc.2]; exact nofun) q
    rw [show (0 : PlaneSet) = 0#4 from rfl, inSet_zero, inSet_and, Bool.and_eq_false_iff]
    cases hq : inSet g q with
    | false => exact .inl rfl
    | true => exact .inr (by simpa using hg hq)
  · rfl

/-! ## An end that comes alone and issues ops at once -/

section
variable {s : State} {p : PlaneId} {x : QueuedOp} {xs : List QueuedOp} {e : OpEnd}

/-- But for a counted error, the acts of an end that is no WRITE_ERROR run with planes and ports as the end leaves them. -/
theorem planeEnded_endStart (he : e ≠ .writeError) : (planeEnded p xs e s).ports = (endStart p xs e s).ports ∧
    (planeEnded p xs e s).pins = (endStart p xs e s).pins ∧
    ∀ q, ((planeEnded p xs e s).plane q).state = ((endStart p xs e s).plane q).state ∧
      ((planeEnded p xs e s).plane q).link = ((endStart p xs e s).plane q).link := by
  cases e with
  | writeError => exact absurd rfl he
  | readOk | writeOk | lost => exact ⟨rfl, rfl, fun _ => ⟨rfl, rfl⟩⟩
  | dataError =>
    refine ⟨rfl, rfl, fun q => ?_⟩
    have hplane : (planeEnded p xs .dataError s).plane q = if q = p then { s.plane p with errorCount := (s.plane p).errorCount + 1 } else s.plane q :=
      State.setPlane_plane _ p _ q
    rw [hplane]
    split
    · next hq => rw [hq]; exact ⟨rfl, rfl⟩
    · exact ⟨rfl, rfl⟩

/-- The event of an end that comes alone, whose acts issue an op on each plane of a set and post a record. -/
theorem exec_issues (data : LineData) (h : Alone s p x xs e) (hb : e.fits x.op.body) (he : e ≠ .writeError) {op : Op} {g : PlaneSet}
    {b : RecBody} {z : State} (hv : settleActs [.deliver x.op p e] (endStart p xs e s) = postRecord b (placeOps op g z))
    (hz : z = (endStart p xs e s).noted z.locks z.positions z.tags z.responses z.suspects z.log z.sticky)
    (hon : ∀ q, inSet g q = true → ((planeEnded p xs e s).plane q).state = .online)
    (hi : ∀ q, inSet g q = true → IssuesAtOnce (planeEnded p xs e s) q) :
    ∃ u, exec (endCommand s p x data e) s = .next u ∧
      (∀ q, u.port q = if inSet g q = true then ((planeEnded p xs e s).port q).takes s.now op else (planeEnded p xs e s).port q) ∧
      u = { failureEnded p e (postRecord b
          ((planeEnded p xs e s).noted z.locks z.positions z.tags z.responses z.suspects z.log z.sticky)) with
        ports := u.ports, out := u.out } := by
  obtain ⟨hports, hpins, hplanes⟩ := planeEnded_endStart (s := s) (p := p) (xs := xs) he
  have hport : ∀ q, (planeEnded p xs e s).port q = z.port q := fun q => by
    rw [hz]
    simp only [State.port, hports]
  have hnow : z.now = s.now := by rw [hz]; cases e <;> rfl
  have hissue : ∀ q, inSet g q = true → IssuesAtOnce z q := fun q hq => by
    obtain ⟨h1, h2, h3, h4⟩ := hi q hq
    rw [hport] at h1 h2 h3
    refine ⟨h1, h2, h3, ?_⟩
    rw [hz]
    exact (hplanes q).2.symm.trans h4
  obtain ⟨hframe, htakes⟩ := placeOps_issues op g z hissue
  generalize placeOps op g z = o at hv hframe htakes
  have htaken : ∀ q, o.port q = if inSet g q = true then ((planeEnded p xs e s).port q).takes s.now op else (planeEnded p xs e s).port q :=
    fun q => by rw [htakes, hport, hnow]
  rw [hframe, hz] at hv
  have hexec := exec_alone data h hb hv (by rw [postRecord_eq]) (by rw [postRecord_eq, endStart_eq]) (fun q => by
    rw [postRecord_eq]
    by_cases hq : inSet g q = true
    · have hoq : o.port q = _ := (htakes q).trans (if_pos hq)
      refine .inr ⟨(hplanes q).1.symm.trans (hon q hq), ?_, ?_⟩
      · exact (congrArg Port.hostList hoq).trans (hissue q hq).1
      · exact (congrArg Port.sweepList hoq).trans (hissue q hq).2.1
    · refine .inl (((htaken q).trans (if_neg hq)).trans ?_)
      simp only [State.port, hports]) fun hc => absurd hc he
  refine ⟨_, hexec, fun q => ?_, ?_⟩
  · rw [← htaken, postRecord_eq]
    cases e with
    | writeError => exact absurd rfl he
    | lost => rw [failureEnded_some p rfl]; rfl
    | readOk | writeOk | dataError => rw [failureEnded_none p rfl]; rfl
  · rw [postRecord_eq, postRecord_eq]
    cases e with
    | writeError => exact absurd rfl he
    | lost => rw [failureEnded_some p rfl, failureEnded_some p rfl]; rfl
    | readOk | writeOk | dataError => rw [failureEnded_none p rfl, failureEnded_none p rfl]; rfl

end

end Sys2Proof.Machine
end

section
/-! PROOFS. The ends of a SINGLE READ's op, and the read ends of an orphan. -/

namespace Sys2Proof.Machine

section
variable {u : State} {t : Tag} {r : Request} {x : ReadRec} {p : PlaneId} {e : OpEnd}

theorem endRead_single (ho : x.orphan = false) (hm : r.attrs.readMode = .single) :
    endRead t r x p e u = endSingle t r (x.ended p e) p e u := by
  unfold endRead
  dsimp only
  rw [ho, hm]
  rfl

theorem endRead_compare (ho : x.orphan = false) (hm : r.attrs.readMode = .compare) (hout : (x.ended p e).outstanding = 0) :
    endRead t r x p e u = settleCompare t r (x.ended p e) u := by
  unfold endRead
  dsimp only
  rw [ho, hm]
  exact if_pos hout

theorem endRead_orphan (ho : x.orphan = true) : endRead t r x p e u =
    if (x.ended p e).outstanding = 0 ∧ (x.ended p e).repairsOut = 0 then
      (postPending t r (x.ended p e) (setRequest t (r.withRead (x.ended p e)) u), [.release (.host t)])
    else (setRequest t (r.withRead (x.ended p e)) u, []) := by
  unfold endRead
  exact if_pos ho

end

/-- Settles O50, by whether a plane erred before, whether a repair follows, and whether the plane is drained. -/
theorem singleReadServed : Obligations.SingleReadServed := by
  intro p t x xs r rec_ data s hqueue hhost hsweep hin hx ht hk hw ho hm hholds hdue run popped st answer served record
  obtain ⟨hpos, hline⟩ := hholds
  have hold : OldestOp s p x xs := ⟨hqueue, hhost, hsweep, hin⟩
  have halone : StaysInService s p xs → Alone s p x xs (.readOk data) := fun h =>
    .inr ⟨.inr ⟨data, rfl⟩, h, hold, hdue, fun _ => .inr (by rw [hx]; rfl)⟩
  have hfits : (OpEnd.readOk data).fits x.op.body := by rw [hx]; exact rfl
  have hrun : run = exec (endCommand s p x 0 (.readOk data)) s := rfl
  generalize hu : endStart p xs (.readOk data) s = u
  have hupos : u.position t = { kept := none, heldBack := none } := by rw [← hu]; exact hpos
  have hutag : u.tag t = .inWork r := by rw [← hu]; exact ht
  have hrel : lockRelease (.host t) u.locks = (s.locks.filter fun y => y.line != r.line, []) := by rw [← hu]; exact hline.release
  have hend : settleActs [.deliver x.op p (.readOk data)] u =
      settleActs (serve t r (rec_.ended p (.readOk data)) data st .readError rec_.erred u).2
        (serve t r (rec_.ended p (.readOk data)) data st .readError rec_.erred u).1 := by
    rw [hx, settleActs_deliver_read (requestAt_live (by rw [hupos]) hutag) hw, endRead_single ho hm]
    rfl
  have hplain : repairPlanes u r st rec_.erred = 0 → settleActs [.deliver x.op p (.readOk data)] u =
      if rec_.erred = 0 then served else postRecord (record .served) served := fun hrep => by
    rw [hend, settle_serve hupos hutag hk hrep hrel]
    split
    · rw [← hu]; rfl
    · rw [postRecord_eq, postRecord_eq, ← hu]; rfl
  have hnone : rec_.erred = 0 → repairPlanes u r st rec_.erred = 0 := fun h0 =>
    repairPlanes_none u r st _ (.inr fun q hq => absurd h0 (planeSet_ne_zero hq))
  refine ⟨fun h0 => ⟨fun hstay => ?_, fun hd hxs => ?_⟩, fun hne hstay => ⟨fun hrep => ?_, fun hrep hp hsome hi => ?_⟩⟩
  · have hv := hplain (hnone h0)
    rw [if_pos h0] at hv
    have hexec := exec_fields 0 (halone hstay) hfits (hu ▸ hv) rfl
    exact hrun.trans hexec
  · have hv := hplain (hnone h0)
    rw [if_pos h0] at hv
    have hport : ∀ q, served.port q = if q = p then { s.port p with queue := xs } else s.port q := State.setPort_port s p _
    have hexec := takeResponse_ok true (.readOk data) (by rw [hd]; rfl) hold (by rw [hx]; rfl) (.inr ⟨data, rfl⟩) (hu ▸ hv)
      (by rw [hport, if_pos rfl]; exact hhost) (by rw [hport, if_pos rfl]; exact hsweep)
    have habort : endAbort served = served := by
      refine endAbort_eq served (hdue.abort_after rfl fun _ q => ⟨.rfl, fun hs => ?_⟩)
      rw [hport, if_neg fun hq => by rw [hq, hd] at hs; cases hs]
      exact ⟨rfl, rfl⟩
    have hdrain : drainPlane served p = { served.setPlane p { s.plane p with state := .offline } with
        mgmt := { s.mgmt with result := some { code := .done, payload := [] }, busy := false } } := by
      unfold drainPlane
      rw [if_pos ⟨hd, by rw [hport, if_pos rfl, hxs]; simp [Port.isEmpty, hhost, hsweep]⟩]
      rfl
    refine congrArg Host.Outcome.next (hexec.trans ?_)
    unfold endOfEvent
    rw [habort, foldl_drainPlane_due served p (fun q hq hs => by rw [hport, if_neg hq]; exact hdue.2 q hs), hdrain]
  · have hv := hplain (repairPlanes_none u r st rec_.erred (by rw [← hu]; exact hrep))
    rw [if_neg hne] at hv
    refine hrun.trans ((exec_fields 0 (halone hstay) hfits (hu ▸ hv) ?_).trans ?_)
    · rw [postRecord_eq]; rfl
    · rw [postRecord_eq]; rfl
  · have hst : st = .recovered := if_neg fun hc => hne hc.1
    have hg : ∀ q, inSet (repairPlanes u r st rec_.erred) q = true ↔ inSet rec_.erred q = true ∧ (s.plane q).state = .online := fun q => by
      rw [hst, repairPlanes_eq u r rec_.erred hrep q, ← hu]
      exact .rfl
    generalize hgs : repairPlanes u r st rec_.erred = g at hg
    have hv := hend.trans (settle_serve_repairs (by rw [hupos]) hutag hk hgs (by
      obtain ⟨q, hq⟩ := hsome
      exact planeSet_ne_zero ((hg q).mpr hq)) hne)
    have hnot : ∀ q, inSet g q = true → q ≠ p := fun q hq hqp => by
      have := ((hg q).mp hq).1
      rw [hqp, hp] at this
      cases this
    have hport : ∀ q, inSet g q = true → popped.port q = s.port q := fun q hq => (State.setPort_port s p _ q).trans (if_neg (hnot q hq))
    obtain ⟨v, hexec, hports, hframe⟩ := exec_issues (s := s) (p := p) (xs := xs) 0 (halone hstay) hfits nofun (hu ▸ hv)
      rfl (fun q hq => ((hg q).mp hq).2) fun q hq => by
        obtain ⟨h1, h2, h3, h4⟩ := hi q ((hg q).mp hq).1 ((hg q).mp hq).2
        have hq' : (planeEnded p xs (.readOk data) s).port q = s.port q := hport q hq
        exact ⟨by rw [hq']; exact h1, by rw [hq']; exact h2, by rw [hq']; exact h3, h4⟩
    refine ⟨g, hg, v, hrun.trans hexec, fun q => ?_, hframe.trans ?_⟩
    · rw [hports q, copyWrite_takes, show (planeEnded p xs (.readOk data) s).port q = popped.port q from rfl]
      split
      · next hq => rw [hport q hq]
      · rfl
    · rw [failureEnded_none p rfl, postRecord_eq, postRecord_eq]
      rfl

end Sys2Proof.Machine
end

section
/-! PROOFS. The DATA_ERROR and PLANE_LOST ends of a SINGLE READ, and the read ends of an orphan. -/

namespace Sys2Proof.Machine

/-! ## Where a SINGLE READ goes on -/

section
variable {u : State} {t : Tag} {r : Request} {x : ReadRec} {p : PlaneId} {e : OpEnd}

theorem endSingle_err (he : e = .dataError ∨ e = .lost) : endSingle t r x p e u = failOver t r x p u := by
  rcases he with rfl | rfl <;> rfl

/-- The planes a SINGLE READ may still ask (R72). -/
theorem inSet_open (q : PlaneId) : inSet (lessPlanes (x.readSet &&& onlinePlanes u) x.tried) q = true ↔
    inSet x.readSet q = true ∧ (u.plane q).state = .online ∧ inSet x.tried q = false := by
  simp [and_assoc]

theorem failOver_next {q : PlaneId} (hq : inSet x.readSet q = true ∧ (u.plane q).state = .online ∧ inSet x.tried q = false)
    (hnear : ∀ v, inSet x.readSet v = true ∧ (u.plane v).state = .online ∧ inSet x.tried v = false →
      (q - (p + 1)).val ≤ (v - (p + 1)).val) : failOver t r x p u = (askPlane t r x q u, []) := by
  unfold failOver
  rw [(nextPlane_eq_some p q _).mpr ⟨(inSet_open q).mpr hq, fun v hv => hnear v ((inSet_open v).mp hv)⟩]

theorem failOver_none (h : ∀ q, ¬(inSet x.readSet q = true ∧ (u.plane q).state = .online ∧ inSet x.tried q = false)) :
    failOver t r x p u = if x.erred = 0 then readNoPlane t (setRequest t (r.withRead x) u)
      else poison t r x .noGoodCopy x.erred .readError x.erred u := by
  have hempty : lessPlanes (x.readSet &&& onlinePlanes u) x.tried = 0#4 := planeSet_ext _ _ fun q => by
    rw [inSet_zero, Bool.eq_false_iff]
    exact fun hq => h q ((inSet_open q).mp hq)
  unfold failOver
  rw [(nextPlane_eq_none p _).mpr hempty]

end

/-- The planes tried so far hold `p`, so what a DATA_ERROR or a loss does to `p` leaves the planes that may be asked. -/
theorem endStart_open {p : PlaneId} {xs : List QueuedOp} {e : OpEnd} {s : State} (q : PlaneId) (g h : PlaneSet) (hp : inSet h p = true) :
    (inSet g q = true ∧ ((endStart p xs e s).plane q).state = .online ∧ inSet h q = false) ↔
      inSet g q = true ∧ (s.plane q).state = .online ∧ inSet h q = false := by
  by_cases hq : q = p
  · subst hq
    simp [hp]
  · rw [endStart_plane_of_ne hq]

/-- Settles O52, by whether a plane is left to ask, and for an orphan by whether an op is left. -/
theorem singleReadErred : Obligations.SingleReadErred := by
  intro p t x xs r rec_ e data s hends hx hk hw run base released rec1 readError
  have halone : Alone s p x xs e := .inl hends
  generalize hu : endStart p xs e s = u
  refine ⟨fun he ht ho hm htried hkept => ?live, fun he hp ho hline => ?orphan⟩
  case live =>
    intro open_ settled
    have hrec : rec_.ended p e = rec1 := by
      rw [rec_.ended_eq p e data (.inr he)]
      rcases he with rfl | rfl <;> simp [rec1]
    have hfits : e.fits x.op.body := by rw [hx]; exact OpEnd.fits_read (data := data) (.inr he)
    have hupos : (u.position t).kept = none := by rw [← hu, endStart_position]; exact hkept
    have hutag : u.tag t = .inWork r := by rw [← hu, endStart_tag]; exact ht
    have hopen : ∀ q, (inSet rec1.readSet q = true ∧ (u.plane q).state = .online ∧ inSet rec1.tried q = false) ↔ open_ q := fun q => by
      rw [← hu]
      exact endStart_open q rec_.readSet rec_.tried htried
    have hend : settleActs [.deliver x.op p e] u = settleActs (failOver t r rec1 p u).2 (failOver t r rec1 p u).1 := by
      rw [hx, settleActs_deliver_read (requestAt_live hupos hutag) hw, endRead_single ho hm, hrec, endSingle_err he]
    refine ⟨fun q hq hnear hi => ?next, fun hnone hholds => ?settles⟩
    case next =>
      have hqp : q ≠ p := fun h => by rw [h] at hq; exact absurd hq.2.2 (by rw [htried]; exact nofun)
      have hport : (endStart p xs e s).port q = s.port q := endStart_port_of_ne hqp
      have hiu : IssuesAtOnce u q := by
        rw [← hu]
        unfold IssuesAtOnce
        rw [hport, endStart_plane_of_ne hqp]
        exact hi
      rw [failOver_next ((hopen q).mpr hq) fun v hv => hnear v ((hopen v).mp hv)] at hend
      dsimp only at hend
      rw [settleActs_nil, askPlane_issues hupos hutag hiu] at hend
      rw [← hu] at hend
      have hissued : ∀ y, issuedTo (readOp t r.line) ((endStart p xs e s).setTag t y) q =
          { ((endStart p xs e s).setTag t y).setPort q ((s.port q).withIssued s.now x.op) with
            out := { ops := [(q, ⟨x.op, (s.port q).nextSlot, (s.port q).gen, s.now⟩)] } } := fun y => by
        unfold issuedTo
        rw [show ((endStart p xs e s).setTag t y).port q = s.port q from hport, hx]
        rcases he with rfl | rfl <;> rfl
      rw [hissued] at hend
      have hexec := exec_alone data halone hfits hend (by rcases he with rfl | rfl <;> rfl)
        (by rcases he with rfl | rfl <;> rfl) (fun v => ?_) (by rcases he with rfl | rfl <;> exact nofun)
      · refine hexec.trans (congrArg Host.Outcome.next ?_)
        rw [failureEnded_out]
        rcases he with rfl | rfl <;> rfl
      · by_cases hv : v = q
        · subst hv
          have hself := State.setPort_port_same ((endStart p xs e s).setTag t (.inWork (r.withRead
            { rec1 with tried := addPlane rec1.tried v, outstanding := addPlane rec1.outstanding v }))) v ((s.port v).withIssued s.now x.op)
          refine .inr ⟨by rw [endStart_plane_of_ne hqp]; exact hq.2.1, ?_, ?_⟩
          · exact (congrArg Port.hostList hself).trans hi.1
          · exact (congrArg Port.sweepList hself).trans hi.2.1
        · exact .inl ((State.setPort_port _ q _ v).trans (if_neg hv))
    case settles =>
      obtain ⟨hpos, hline⟩ := hholds
      have hupos' : u.position t = { kept := none, heldBack := none } := by rw [← hu, endStart_position]; exact hpos
      have hrel : lockRelease (.host t) u.locks = (released, []) := by rw [← hu, endStart_host.1]; exact hline.release
      rw [failOver_none fun q hq => hnone q ((hopen q).mp hq)] at hend
      refine ⟨fun h0 => ?_, fun h0 hroom hfree => ?_⟩
      · rw [if_pos h0, settle_noPlane hupos' hutag hk hrel, ← hu] at hend
        refine (exec_fields data halone hfits hend rfl).trans (congrArg Host.Outcome.next ?_)
        rcases he with rfl | rfl <;> rfl
      · have husus : u.suspects = s.suspects := by rw [← hu]; exact endStart_host.2.2.2.2.1
        rw [if_neg h0, settle_poison hupos' hutag hk hrel (by rw [husus]; exact hroom) (by rw [husus]; exact hfree), postRecord_eq,
          ← hu] at hend
        refine (exec_fields data halone hfits hend rfl).trans (congrArg Host.Outcome.next ?_)
        rw [postRecord_eq]
        rcases he with rfl | rfl <;> rfl
  case orphan =>
    intro rec2
    have he' : e = .readOk data ∨ e = .dataError ∨ e = .lost := by tauto
    have hrec : rec_.ended p e = rec2 := rec_.ended_eq p e data he'
    have hfits : e.fits x.op.body := by rw [hx]; exact OpEnd.fits_read he'
    have hupos : u.position t = { kept := some r, heldBack := none } := by rw [← hu, endStart_position]; exact hp
    have hrel : lockRelease (.host t) u.locks = (released, []) := by rw [← hu, endStart_host.1]; exact hline.release
    have hset : setRequest t (r.withRead rec2) u = u.setPosition t { kept := some (r.withRead rec2), heldBack := none } := by
      rw [setRequest_kept (by rw [hupos]), hupos]
    have hend : settleActs [.deliver x.op p e] u =
        if rec2.outstanding = 0 ∧ rec2.repairsOut = 0 then
          settleActs [.release (.host t)] (postPending t r rec2 (u.setPosition t { kept := some (r.withRead rec2), heldBack := none }))
        else u.setPosition t { kept := some (r.withRead rec2), heldBack := none } := by
      rw [hx, settleActs_deliver_read (requestAt_kept (by rw [hupos])) hw, endRead_orphan ho, hrec, hset]
      split
      · rfl
      · exact settleActs_nil _
    have hfreed : ∀ log sticky, settleActs [.release (.host t)]
          { u.setPosition t { kept := some (r.withRead rec2), heldBack := none } with log := log, sticky := sticky } =
        { u.setPosition t { kept := none, heldBack := none } with locks := released, log := log, sticky := sticky } :=
      fun log sticky => by
        rw [settleActs_release (s := { u.setPosition t _ with log := log, sticky := sticky }) hrel
          (congrArg HostPos.heldBack (State.setPosition_position_same u t _))]
        simp [State.setPosition]
    refine ⟨fun hmore => ?_, fun hout hrep => ⟨fun hnone => ?_, fun g hg => ?_⟩⟩
    · rw [if_neg fun h => hmore.elim (fun hc => hc h.1) fun hc => hc h.2, ← hu] at hend
      refine (exec_fields data halone hfits hend rfl).trans (congrArg Host.Outcome.next ?_)
      rcases he' with rfl | rfl | rfl <;> rfl
    · have hpost : ∀ z, postPending t r rec2 z = z := fun z => by unfold postPending; rw [show rec2.pendingRecord = none from hnone]
      rw [if_pos ⟨hout, hrep⟩, hpost] at hend
      replace hend := hend.trans (hfreed u.log u.sticky)
      rw [← hu] at hend
      refine (exec_fields data halone hfits hend rfl).trans (congrArg Host.Outcome.next ?_)
      rcases he' with rfl | rfl | rfl <;> rfl
    · have hpost : ∀ z, postPending t r rec2 z = postRecord (readError g) z := fun z => by
        unfold postPending; rw [show rec2.pendingRecord = some g from hg]; rfl
      rw [if_pos ⟨hout, hrep⟩, hpost, postRecord_eq] at hend
      replace hend := hend.trans (hfreed _ _)
      rw [← hu] at hend
      refine (exec_fields data halone hfits hend rfl).trans (congrArg Host.Outcome.next ?_)
      rw [postRecord_eq]
      rcases he' with rfl | rfl | rfl <;> rfl

end Sys2Proof.Machine
end

section
/-! PROOFS. The last read end of a COMPARE READ, by the outcome of its vote. -/

namespace Sys2Proof.Machine

/-! ## The vote of a COMPARE READ -/

/-- The minority of a majority is not empty (R77). -/
theorem majority_record_ne_zero {copies : List (PlaneId × LineData)} {erred m : PlaneSet} {d : LineData} (hn : (copies.map Prod.fst).Nodup)
    (h : vote copies erred = .majority d m) : m ||| erred ≠ 0 := by
  obtain ⟨-, ⟨c, hc, hne⟩, rfl⟩ := (majority_iff copies erred d m).mp h
  refine planeSet_ne_zero (p := c.1) ?_
  rw [inSet_or, (inSet_minorityOf copies d hn c.1).mpr ⟨c, hc, rfl, hne⟩, Bool.true_or]

/-- The set of planes that returned a copy, as the statements give it. -/
theorem eq_copyPlanes {copies : List (PlaneId × LineData)} {g : PlaneSet} (h : ∀ q, inSet g q = true ↔ ∃ c ∈ copies, c.1 = q) :
    g = copyPlanes copies := planeSet_ext _ _ fun q => by
  rw [Bool.eq_iff_iff, h, inSet_copyPlanes]

section
variable {u : State} {t : Tag} {r : Request} {x : ReadRec} {d : LineData} {kind : RecKind} {g m marked : PlaneSet} {plain : RecOutcome}
  {reason : SuspectReason}

theorem settleCompare_agreed (h : vote x.copies x.erred = .agreed d) (h0 : x.erred = 0) :
    settleCompare t r x u = serve t r x d .ok .readError 0 u := by
  unfold settleCompare
  rw [h]
  dsimp only
  rw [h0]
  rfl

/-- A vote with a copy to serve after an error, or with a minority, serves it as RECOVERED (R76, R78). -/
theorem settleCompare_recovered (hn : (x.copies.map Prod.fst).Nodup)
    (h : vote x.copies x.erred = .agreed d ∧ x.erred ≠ 0 ∧ kind = .readError ∧ g = x.erred ∧ plain = .served ∨
      vote x.copies x.erred = .majority d m ∧ kind = .mismatch ∧ g = m ||| x.erred ∧ plain = .majorityServed) :
    settleCompare t r x u = serve t r x d .recovered kind g u ∧ g ≠ 0 ∧ (if kind = .mismatch then RecOutcome.majorityServed else .served) = plain := by
  unfold settleCompare
  rcases h with ⟨hv, h0, rfl, rfl, rfl⟩ | ⟨hv, rfl, rfl, rfl⟩
  · rw [hv]
    dsimp only
    rw [if_neg h0]
    exact ⟨rfl, h0, rfl⟩
  · rw [hv]
    exact ⟨rfl, majority_record_ne_zero hn hv, rfl⟩

/-- A vote with no copy to trust poisons the line (R76, R81). -/
theorem settleCompare_poison
    (h : vote x.copies x.erred = .split ∧ reason = .noMajority ∧ kind = .mismatch ∧ (∀ q, inSet marked q = true ↔ ∃ c ∈ x.copies, c.1 = q) ∧
        g = marked ||| x.erred ∨
      vote x.copies x.erred = .noGoodCopy ∧ reason = .noGoodCopy ∧ kind = .readError ∧ marked = x.erred ∧ g = x.erred) :
    settleCompare t r x u = poison t r x reason marked kind g u := by
  unfold settleCompare
  rcases h with ⟨hv, rfl, rfl, hmarked, rfl⟩ | ⟨hv, rfl, rfl, rfl, rfl⟩
  · rw [hv, eq_copyPlanes hmarked]
  · rw [hv]

theorem settleCompare_nothing (h : vote x.copies x.erred = .nothing) :
    settleCompare t r x u = readNoPlane t (setRequest t (r.withRead x) u) := by
  unfold settleCompare
  rw [h]

end

/-- With no copy and no error the vote is nothing, and no other (R76). -/
theorem erred_of_nothing {copies : List (PlaneId × LineData)} {erred : PlaneSet} (h : vote copies erred = .nothing) : erred = 0 := by
  cases voteCase copies erred with
  | none hc hv =>
    by_contra h0
    rw [if_neg h0, h] at hv
    cases hv
  | agreed d _ _ hv => cases hv.symm.trans h
  | majority d _ _ hv => cases hv.symm.trans h
  | split _ _ hv => cases hv.symm.trans h

/-- Settles O53, by the outcome of the vote and by whether a repair follows. -/
theorem compareReadSettles : Obligations.CompareReadSettles := by
  intro p t x xs r rec_ e data d m s he hends hx ht hk hw ho hm hout hkept copies erred run base rec1 answer response record released hnodup
  have halone : Alone s p x xs e := .inl hends
  have he' : e = .readOk data ∨ e = .dataError ∨ e = .lost := he
  have hfits : e.fits x.op.body := by rw [hx]; exact OpEnd.fits_read he'
  generalize hu : endStart p xs e s = u
  generalize hxr : rec_.ended p e = x1
  have hx1 : x1 = { rec1 with pendingRecord := if e = .dataError then some (addPlane (rec_.pendingRecord.getD 0) p) else rec_.pendingRecord } := by
    rw [← hxr, rec_.ended_eq p e data he']
    have hdrop : dropPlane rec_.outstanding p = 0 := by
      rw [hout]
      exact planeSet_ext _ _ fun q => by rw [show (0 : PlaneSet) = 0#4 from rfl, inSet_zero]; simp
    rw [hdrop]
  have hcopies : x1.copies = copies := by rw [hx1]
  have herred : x1.erred = erred := by rw [hx1]
  have hupos : (u.position t).kept = none := by rw [← hu, endStart_position]; exact hkept
  have hutag : u.tag t = .inWork r := by rw [← hu, endStart_tag]; exact ht
  have hend : settleActs [.deliver x.op p e] u = settleActs (settleCompare t r x1 u).2 (settleCompare t r x1 u).1 := by
    rw [hx, settleActs_deliver_read (requestAt_live hupos hutag) hw, endRead_compare ho hm (by rw [hxr, hx1]), hxr]
  have hpos : HoldsAlone s t r.line → u.position t = { kept := none, heldBack := none } ∧ lockRelease (.host t) u.locks = (released, []) :=
    fun h => ⟨by rw [← hu, endStart_position]; exact h.1, by rw [← hu, endStart_host.1]; exact h.2.release⟩
  have hplanes : ∀ q, (u.plane q).state = (base.plane q).state := fun q => by
    rw [← hu]
    exact ((planeEnded_endStart (by rcases he with rfl | rfl | rfl <;> exact nofun)).2.2 q).1.symm
  refine ⟨fun hv h0 hholds => ?agreed, fun kind g plain hv => ⟨fun hholds hrep => ?served, fun hrep hsome hi => ?repaired⟩,
    fun hholds => ⟨fun hroom hfree reason kind g marked hv => ?poisoned, fun hv => ?nothing⟩⟩
  case agreed =>
    obtain ⟨hup, hrel⟩ := hpos hholds
    rw [settleCompare_agreed (by rw [hcopies, herred]; exact hv) (herred.trans h0), settle_serve hup hutag hk
      (repairPlanes_none u r _ _ (.inr fun q hq => absurd rfl (planeSet_ne_zero hq))) hrel, if_pos rfl, hx1, ← hu] at hend
    refine (exec_fields data halone hfits hend rfl).trans (congrArg Host.Outcome.next ?_)
    rcases he with rfl | rfl | rfl <;> rfl
  case served =>
    obtain ⟨hup, hrel⟩ := hpos hholds
    obtain ⟨hserve, hg, hplain⟩ := settleCompare_recovered (t := t) (r := r) (u := u) (x := x1) (by rw [hcopies]; exact hnodup) (by rw [hcopies, herred]; exact hv)
    rw [hserve, settle_serve hup hutag hk (repairPlanes_none u r _ g (by simp only [hplanes]; exact hrep)) hrel, if_neg hg, hplain, postRecord_eq, hx1,
      ← hu] at hend
    refine (exec_fields data halone hfits hend rfl).trans (congrArg Host.Outcome.next ?_)
    rw [postRecord_eq]
    rcases he with rfl | rfl | rfl <;> rfl
  case repaired =>
    obtain ⟨hserve, hg, -⟩ := settleCompare_recovered (t := t) (r := r) (u := u) (x := x1) (by rw [hcopies]; exact hnodup) (by rw [hcopies, herred]; exact hv)
    have hrepairs : ∀ q, inSet (repairPlanes u r .recovered g) q = true ↔ inSet g q = true ∧ (base.plane q).state = .online := fun q => by
      rw [repairPlanes_eq u r g hrep q, hplanes]
    generalize hgs : repairPlanes u r .recovered g = repairs at hrepairs
    rw [hserve, settle_serve_repairs hupos hutag hk hgs (by
      obtain ⟨q, hq⟩ := hsome
      exact planeSet_ne_zero ((hrepairs q).mpr hq)) hg, hx1, ← hu] at hend
    obtain ⟨v, hexec, hports, hframe⟩ := exec_issues data halone hfits (by rcases he with rfl | rfl | rfl <;> exact nofun) hend rfl
      (fun q hq => ((hrepairs q).mp hq).2) fun q hq => hi q ((hrepairs q).mp hq).1 ((hrepairs q).mp hq).2
    have hv' : v = { failureEnded p e (postRecord (record kind g .repaired) base) with
        ports := v.ports, tags := (s.setTag t (answer .recovered none repairs repairs)).tags, out := v.out, responses := response .recovered d } := by
      rw [hframe, postRecord_eq, postRecord_eq]
      rcases he with rfl | rfl | rfl
      · rw [failureEnded_none p rfl, failureEnded_none p rfl]; rfl
      · rw [failureEnded_none p rfl, failureEnded_none p rfl]; rfl
      · rw [failureEnded_some p rfl, failureEnded_some p rfl]; rfl
    have htags : v.tags = (s.setTag t (answer .recovered none repairs repairs)).tags := by rw [hv']
    exact ⟨repairs, hrepairs, v, hexec, hports, htags, by rw [htags]; exact hv'⟩
  case poisoned =>
    obtain ⟨hup, hrel⟩ := hpos hholds
    have husus : u.suspects = s.suspects := by rw [← hu]; exact endStart_host.2.2.2.2.1
    rw [settleCompare_poison (by rw [hcopies, herred]; exact hv), settle_poison hup hutag hk hrel (by rw [husus]; exact hroom)
      (by rw [husus]; exact hfree), postRecord_eq, hx1, ← hu] at hend
    refine (exec_fields data halone hfits hend rfl).trans (congrArg Host.Outcome.next ?_)
    rw [postRecord_eq]
    rcases he with rfl | rfl | rfl <;> rfl
  case nothing =>
    obtain ⟨hup, hrel⟩ := hpos hholds
    have hne : e ≠ .dataError := fun hd => by
      have h0 : erred = 0 := erred_of_nothing hv
      rw [show erred = addPlane rec_.erred p from if_pos hd] at h0
      exact planeSet_ne_zero (p := p) (by simp) h0
    rw [settleCompare_nothing (by rw [hcopies, herred]; exact hv), settle_noPlane hup hutag hk hrel, hx1, if_neg hne, ← hu] at hend
    refine (exec_fields data halone hfits hend rfl).trans (congrArg Host.Outcome.next ?_)
    rcases he with rfl | rfl | rfl <;> rfl

end Sys2Proof.Machine
end

section
/-! PROOFS. The ends of sweep ops: how a line finishes, where a REBUILD reads next, and what the vote of a line brings. -/

namespace Sys2Proof.Machine

/-! ## The finish of a line -/

/-- The release of a line that a claimant holds alone. -/
theorem lockRelease_line {l : List LockEntry} {pos : Claimant} {line : Nat} (hn : (l.map LockEntry.line).Nodup)
    (hheld : ∃ e ∈ l, e.line = line ∧ e.holders = [pos] ∧ e.waiting = []) (hown : ∀ e ∈ l, pos ∈ e.holders → e.line = line) :
    lockRelease pos l = (l.filter fun y => y.line != line, []) := by
  obtain ⟨e, he, rfl, hh, hw⟩ := hheld
  obtain ⟨a, b, rfl⟩ := List.append_of_mem he
  obtain ⟨ha, hfilter⟩ := filter_line_split hn
  rw [hfilter]
  exact lockRelease_alone _ a b e (fun y hy hc => ha y hy (hown y (List.mem_append_left _ hy) hc)) hh hw

section
variable {z : State} {k : SlotId} {j : Job} {l : List LockEntry}

/-- A line finishes where another slot is in flight and no line is left to claim: it is counted, its slot and its lock are free, and
nothing follows (R92, R94, R109). -/
theorem settle_finishLine (hj : z.sweep.job = some j) (hl : lockRelease (.slot k) z.locks = (l, []))
    (hother : ∃ m, m ≠ k ∧ z.slot m ≠ none) (hdone : z.sweep.engine ≠ .running ∨ j.last < j.cursor) :
    settleActs (finishLine k true z).2 (finishLine k true z).1 =
      { (z.setSlot k none).setJob { j with linesDone := j.linesDone + 1 } with locks := l } := by
  have hfinish : finishLine k true z = (z.setJob { j with linesDone := j.linesDone + 1 }, [.release (.slot k), .sweepPlace, .sweepTest]) := by
    unfold finishLine
    dsimp only
    rw [if_pos rfl, hj]
  have hrelease : perform (.release (.slot k)) (z.setJob { j with linesDone := j.linesDone + 1 }) =
      ({ (z.setSlot k none).setJob { j with linesDone := j.linesDone + 1 } with locks := l }, []) := by
    show releaseLine _ _ = _
    unfold releaseLine
    rw [show (z.setJob { j with linesDone := j.linesDone + 1 }).locks = z.locks from rfl, hl]
    rfl
  rw [hfinish]
  dsimp only
  rw [settleActs_cons, hrelease]
  dsimp only
  rw [List.nil_append, settleActs_sweepPlace_idle (s := { (z.setSlot k none).setJob { j with linesDone := j.linesDone + 1 } with locks := l })]
  · obtain ⟨m, hmk, hm⟩ := hother
    have hflight : noSlotInFlight { (z.setSlot k none).setJob { j with linesDone := j.linesDone + 1 } with locks := l } = false := by
      rw [Bool.eq_false_iff, ne_eq, noSlotInFlight_iff]
      exact fun h => hm ((State.setSlot_slot_other z k none m hmk).symm.trans (h m))
    have hcomplete : completeJob { (z.setSlot k none).setJob { j with linesDone := j.linesDone + 1 } with locks := l } = _ :=
      completeJob_not_due (s := { (z.setSlot k none).setJob { j with linesDone := j.linesDone + 1 } with locks := l }) rfl (.inr (.inr hflight))
    rw [settleActs_cons]
    refine (settleActs_nil _).trans ?_
    exact hcomplete
  · refine hdone.imp id fun h j' hj' => .inl ?_
    cases hj'
    exact h

end

/-! ## Delivery to a slot -/

section
variable {u : State} {k : SlotId} {w : SlotWork} {j : Job} {line : Nat} {p : PlaneId} {e : OpEnd}

theorem settleActs_deliver_slot_read (hk : u.slot k = some w) (hj : u.sweep.job = some j) :
    settleActs [.deliver { owner := .slot k, line := line, body := .read } p e] u =
      settleActs (endSlotRead k w j p e u).2 (endSlotRead k w j p e u).1 := by
  have hperform : perform (.deliver { owner := .slot k, line := line, body := .read } p e) u = endSlotRead k w j p e u := by
    unfold perform deliverEnd
    simp only [hk, hj]
  rw [settleActs_cons, hperform, List.append_nil]

theorem settleActs_deliver_slot_write {mask : ByteMask} {d : LineData} (hk : u.slot k = some w) (hj : u.sweep.job = some j) :
    settleActs [.deliver { owner := .slot k, line := line, body := .write mask d } p e] u =
      settleActs (endSlotWrite k w j p e u).2 (endSlotWrite k w j p e u).1 := by
  have hperform : perform (.deliver { owner := .slot k, line := line, body := .write mask d } p e) u = endSlotWrite k w j p e u := by
    unfold perform deliverEnd
    simp only [hk, hj]
  rw [settleActs_cons, hperform, List.append_nil]

end

/-- A sweep op issued at once where the arbiter's counter stands at 0 already. -/
theorem Port.takes_slot_zero {now : Nat} {op : Op} {k : SlotId} {q : Port} (ho : op.owner = .slot k) (h : q.hostGrants = 0) :
    Port.takes now op q = q.withIssued now op := by
  unfold Port.takes
  rw [ho]
  dsimp only
  rw [← h]

/-! ## The event of a sweep op's end while a slot stays in flight -/

/-- No end is due while a slot is in flight and every DETACHING plane has an op (R13, R107). -/
theorem nothingDue_of_flight {v : State} (hm : ∃ m, v.slot m ≠ none) (hd : ∀ q, (v.plane q).state = .detaching → (v.port q).isEmpty = false) :
    NothingDue v := by
  refine ⟨fun _ _ _ => .inl ?_, hd⟩
  obtain ⟨m, hm⟩ := hm
  rw [Bool.eq_false_iff, ne_eq, noSlotInFlight_iff]
  exact fun h => hm (h m)

section
variable {s v : State} {p : PlaneId} {x : QueuedOp} {xs : List QueuedOp} {e : OpEnd}

/-- The event of an end on an ONLINE plane that fails no plane and leaves a slot in flight. -/
theorem exec_flight (data : LineData) (h : OldestEnds s p x xs e) (hb : e.fits x.op.body) (hf : e.failure = none)
    (hv : settleActs [.deliver x.op p e] (endStart p xs e s) = v) (hplanes : v.planes = s.planes) (hm : ∃ m, v.slot m ≠ none)
    (hh : (v.port p).hostList = []) (hs : (v.port p).sweepList = []) (hports : ∀ q, (s.plane q).state = .detaching → v.port q = s.port q) :
    exec (endCommand s p x data e) s = .next (endCounted p e s v) := by
  obtain ⟨hon, -, -, -, -, hdue, -, -⟩ := id h
  have hne : e ≠ .lost := fun hc => by rw [hc] at hf; cases hf
  have hnw : e ≠ .writeError := fun hc => by rw [hc] at hf; cases hf
  have hcounted : ∀ q, (s.plane q).state ≠ .online → (endCounted p e s v).plane q = s.plane q := fun q hq => by
    have hqp : q ≠ p := fun hc => hq (hc ▸ hon)
    obtain ⟨plane, port, he, -⟩ := endCounted_frame (s := s) (v := v) (p := p) (e := e)
    rw [he]
    refine (State.setPlane_plane v p plane q).trans ((if_neg hqp).trans ?_)
    simp only [State.plane, hplanes]
  have hstate : ∀ q, ((endCounted p e s v).plane q).state = .detaching → (s.plane q).state = .detaching := fun q hq => by
    by_cases ho : (s.plane q).state = .online
    · have hsame : ((endCounted p e s v).plane q).state = (s.plane q).state := by
        have hvq : v.plane q = s.plane q := by simp only [State.plane, hplanes]
        cases e with
        | lost => exact absurd rfl hne
        | writeError => exact absurd rfl hnw
        | readOk | writeOk => exact congrArg PlaneRec.state hvq
        | dataError =>
          refine (congrArg PlaneRec.state (State.setPlane_plane v p _ q)).trans ?_
          split
          · next hqp => rw [hqp]
          · exact congrArg PlaneRec.state hvq
      rw [hsame, ho] at hq
      cases hq
    · rwa [hcounted q ho] at hq
  have hslots : (endCounted p e s v).sweep = v.sweep ∧ (endCounted p e s v).ports = v.ports := by
    cases e with
    | writeError => exact absurd rfl hnw
    | lost | readOk | writeOk | dataError => exact ⟨rfl, rfl⟩
  have hdue' : NothingDue (endCounted p e s v) := by
    refine nothingDue_of_flight ?_ fun q hq => ?_
    · simp only [State.slot, hslots.1]
      exact hm
    · have hd := hstate q hq
      rw [show (endCounted p e s v).port q = v.port q by simp only [State.port, hslots.2], hports q hd]
      exact hdue.2 q hd
  have hexec := exec_end e data h hb hv (hplanes.trans (endStart_planes hne).symm) (fun hc => absurd hf hc) (fun hc => absurd hc hnw) hh hs
    (by rw [failureEnded_none p hf]; exact hdue')
  rwa [failureEnded_none p hf] at hexec

end

end Sys2Proof.Machine
end

section
/-! PROOFS. The ends on a sweep line, by job kind and outcome. -/

namespace Sys2Proof.Machine

/-! ## What a line does -/

section
variable {u : State} {k : SlotId} {w : SlotWork} {j : Job} {d : LineData} {kind : RecKind} {g m marked : PlaneSet} {plain : RecOutcome}
  {reason : SuspectReason} {l : List LockEntry} {p q : PlaneId}

/-- A REBUILD copy goes to each target still SYNCING (R96). -/
theorem copyArrived_eq (hg : syncingTargets u j ≠ 0) : copyArrived k w j d u =
    (placeOps (copyWrite (.slot k) w.line d) (syncingTargets u j)
      ((if w.erred = 0 then u else postRecord (sweepRecord j w.line .readError w.erred .served) u).setSlot k
        (some { w with writesOut := syncingTargets u j })), []) := by
  have htargets : syncingTargets (if w.erred = 0 then u else postRecord (sweepRecord j w.line .readError w.erred .served) u) j =
      syncingTargets u j := by
    split
    · rfl
    · rw [postRecord_eq]; rfl
  unfold copyArrived writeTargets
  dsimp only
  rw [htargets, if_neg hg]

/-- The planes a REBUILD line may still read (R95). -/
theorem inSet_source : inSet (lessPlanes (onlinePlanes u) w.tried) q = true ↔ (u.plane q).state = .online ∧ inSet w.tried q = false := by
  simp

theorem chooseSource_next (hq : (u.plane q).state = .online ∧ inSet w.tried q = false)
    (hlow : ∀ v, (u.plane v).state = .online ∧ inSet w.tried v = false → q ≤ v) : chooseSource k w j u =
    (placeOp { owner := .slot k, line := w.line, body := .read }
      (u.setSlot k (some { w with tried := addPlane w.tried q, outstanding := onePlane q })) q, []) := by
  have hlowest : lowestPlane (lessPlanes (onlinePlanes u) w.tried) = some q :=
    (lowestPlane_eq_some _ q).mpr ⟨inSet_source.mpr hq, fun v hv => by
      rw [Bool.eq_false_iff]
      exact fun hc => absurd hv (not_lt.mpr (hlow v (inSet_source.mp hc)))⟩
  unfold chooseSource
  rw [hlowest]

theorem chooseSource_none (h : ∀ v, ¬((u.plane v).state = .online ∧ inSet w.tried v = false)) (hne : w.erred ≠ 0) :
    chooseSource k w j u = noGoodSource k w j u := by
  have hlowest : lowestPlane (lessPlanes (onlinePlanes u) w.tried) = none :=
    (lowestPlane_eq_none _).mpr (planeSet_ext _ _ fun v => by
      rw [inSet_zero, Bool.eq_false_iff]
      exact fun hc => h v (inSet_source.mp hc))
  unfold chooseSource
  rw [hlowest]
  exact if_neg hne

/-- A line with an agreed copy and no plane to repair is recorded, where a plane erred or differs, and finishes (R101, R102). -/
theorem settleAgreed_plain (hrep : scrubPlanes u j g = 0) : settleAgreed k w j d kind g u =
    finishLine k true (if g = 0 then u.setSlot k (some { w with writesOut := 0 })
      else postRecord (sweepRecord j w.line kind g (if kind = .mismatch then .majorityServed else .served))
        (u.setSlot k (some { w with writesOut := 0 }))) := by
  unfold settleAgreed
  dsimp only
  rw [hrep]
  rfl

/-- A line with planes to repair writes the copy to them (R102). -/
theorem settleAgreed_repairs {repairs : PlaneSet} (hrep : scrubPlanes u j g = repairs) (hne : repairs ≠ 0) (hg : g ≠ 0) :
    settleAgreed k w j d kind g u = (postRecord (sweepRecord j w.line kind g .repaired)
      (placeOps (copyWrite (.slot k) w.line d) repairs (u.setSlot k (some { w with writesOut := repairs }))), []) := by
  unfold settleAgreed
  dsimp only
  rw [hrep, if_neg hne, if_neg hg, if_neg hne]

/-- A line with no copy to trust: a SCRUB marks it suspect, where the table has room (R101, R102). -/
theorem settleDistrusted_eq (hk : j.kind = .verify ∨ j.kind = .scrub)
    (hroom : j.kind = .verify ∨ u.suspects.length < 16 ∧ ∀ y ∈ u.suspects, y.line ≠ w.line) :
    settleDistrusted k w j reason marked kind g u = finishLine k true (postRecord (sweepRecord j w.line kind g .unresolved)
      { u.setSlot k (some w) with
        suspects := if j.kind = .verify then u.suspects else u.suspects ++ [{ line := w.line, reason := reason, planes := marked }] }) := by
  unfold settleDistrusted
  rcases hk with hk | hk
  · rw [hk, if_pos rfl, if_neg nofun]
    rfl
  · obtain ⟨hlen, hfree⟩ := hroom.resolve_left (by rw [hk]; exact nofun)
    have hput : suspectPut { line := w.line, reason := reason, planes := marked } u.suspects =
        some (u.suspects ++ [{ line := w.line, reason := reason, planes := marked }]) := by
      rw [suspectPut_of_line_free _ _ hfree, if_pos hlen]
    dsimp only
    rw [if_pos hk, addSuspect_of_put _ (u.setSlot k (some w)) _ hput, hk, if_neg nofun]
    rfl

theorem scrubPlanes_none (h : j.kind = .verify ∨ ∀ q, inSet g q = true → (u.plane q).state ≠ .online) : scrubPlanes u j g = 0 := by
  unfold scrubPlanes
  split
  · next hc =>
    have hg := h.resolve_left (by rw [hc]; exact nofun)
    refine planeSet_ext _ _ fun q => ?_
    rw [show (0 : PlaneSet) = 0#4 from rfl, inSet_zero, inSet_and, Bool.and_eq_false_iff]
    cases hq : inSet g q with
    | false => exact .inl rfl
    | true => exact .inr (by simpa using hg q hq)
  · rfl

theorem inSet_scrubPlanes (h : j.kind = .scrub) : inSet (scrubPlanes u j g) q = true ↔ inSet g q = true ∧ (u.plane q).state = .online := by
  unfold scrubPlanes
  rw [if_pos h]
  simp

/-- The state of a line's vote: a mismatch is counted where the copies differ (R100). -/
def voted (kind : RecKind) (u : State) : State := if kind = .mismatch then countMismatch u else u

theorem settleVote_agreed (h : vote w.copies w.erred = .agreed d) (h0 : w.erred = 0) :
    settleVote k w j u = settleAgreed k w j d .readError 0 u := by
  unfold settleVote
  rw [h, h0]

theorem settleVote_recovered (hn : (w.copies.map Prod.fst).Nodup)
    (h : vote w.copies w.erred = .agreed d ∧ w.erred ≠ 0 ∧ kind = .readError ∧ g = w.erred ∧ plain = .served ∨
      vote w.copies w.erred = .majority d m ∧ kind = .mismatch ∧ g = m ||| w.erred ∧ plain = .majorityServed) :
    settleVote k w j u = settleAgreed k w j d kind g (voted kind u) ∧ g ≠ 0 ∧
      (if kind = .mismatch then RecOutcome.majorityServed else .served) = plain := by
  unfold settleVote
  rcases h with ⟨hv, h0, rfl, rfl, rfl⟩ | ⟨hv, rfl, rfl, rfl⟩
  · rw [hv]
    exact ⟨rfl, h0, rfl⟩
  · rw [hv]
    exact ⟨rfl, majority_record_ne_zero hn hv, rfl⟩

theorem settleVote_distrusted
    (h : vote w.copies w.erred = .split ∧ reason = .noMajority ∧ kind = .mismatch ∧ (∀ q, inSet marked q = true ↔ ∃ c ∈ w.copies, c.1 = q) ∧
        g = marked ||| w.erred ∨
      vote w.copies w.erred = .noGoodCopy ∧ reason = .noGoodCopy ∧ kind = .readError ∧ marked = w.erred ∧ g = w.erred) :
    settleVote k w j u = settleDistrusted k w j reason marked kind g (voted kind u) := by
  unfold settleVote
  rcases h with ⟨hv, rfl, rfl, hmarked, rfl⟩ | ⟨hv, rfl, rfl, rfl, rfl⟩
  · rw [hv, eq_copyPlanes hmarked]
    rfl
  · rw [hv]
    rfl

end

/-- The job after a vote, with its mismatch counted where the copies differ (R100). -/
def Job.voted (kind : RecKind) (j : Job) : Job := if kind = .mismatch then { j with mismatches := min (j.mismatches + 1) 65535 } else j

theorem voted_setJob (kind : RecKind) (u : State) (j : Job) : voted kind (u.setJob j) = u.setJob (j.voted kind) := by
  unfold voted Job.voted
  split <;> rfl

/-- The slot's work after a read end, as the statement writes it. -/
theorem SlotWork.ended_eq (w : SlotWork) (p : PlaneId) (e : OpEnd) (data : LineData) (he : e = .readOk data ∨ e = .dataError) :
    w.ended p e = { w with
      outstanding := dropPlane w.outstanding p
      copies := if e = .readOk data then w.copies ++ [(p, data)] else w.copies
      erred := if e = .dataError then addPlane w.erred p else w.erred } := by
  rcases he with rfl | rfl <;> unfold SlotWork.ended <;> simp

theorem dropPlane_onePlane (p : PlaneId) : dropPlane (onePlane p) p = 0 := by revert p; decide

theorem endSlotRead_rebuild {k : SlotId} {w : SlotWork} {j : Job} {p : PlaneId} {u : State} (hk : j.kind = .rebuild) :
    endSlotRead k w j p .dataError u = chooseSource k (w.ended p .dataError) (countError w j .dataError) (u.setJob (countError w j .dataError)) ∧
    ∀ d, endSlotRead k w j p (.readOk d) u = copyArrived k (w.ended p (.readOk d)) j d (u.setJob j) := by
  unfold endSlotRead
  rw [hk]
  exact ⟨rfl, fun d => by unfold countError; rfl⟩

theorem endSlotRead_vote {k : SlotId} {w : SlotWork} {j : Job} {p : PlaneId} {e : OpEnd} {u : State} (hk : j.kind = .verify ∨ j.kind = .scrub)
    (hout : (w.ended p e).outstanding = 0) :
    endSlotRead k w j p e u = settleVote k (w.ended p e) (countError w j e) (u.setJob (countError w j e)) := by
  unfold endSlotRead
  rcases hk with hk | hk <;> rw [hk] <;> exact if_pos hout

theorem inSet_syncingTargets (s : State) (j : Job) (q : PlaneId) :
    inSet (syncingTargets s j) q = true ↔ inSet j.targets q = true ∧ (s.plane q).state = .syncing := by
  simp [syncingTargets]

/-! ## The event of an end whose acts issue sweep ops -/

section
variable {s z v y : State} {p : PlaneId} {x : QueuedOp} {xs : List QueuedOp} {e : OpEnd} {op : Op} {g : PlaneSet} {k : SlotId}

/-- The event of an end that issues a sweep op on each plane of a set: `y` is what else it leaves. -/
theorem exec_slot_issues (data : LineData) (h : OldestEnds s p x xs e) (hb : e.fits x.op.body) (hf : e.failure = none)
    (ho : op.owner = .slot k) (hv : settleActs [.deliver x.op p e] (endStart p xs e s) = v)
    (hframe : v = { y with ports := (placeOps op g z).ports, out := (placeOps op g z).out }) (hy : y.planes = s.planes)
    (hm : ∃ m, y.slot m ≠ none) (hz : z.ports = (endStart p xs e s).ports) (hzp : z.planes = s.planes) (hnow : z.now = s.now)
    (hg : ∀ q, inSet g q = true → (s.plane q).state ≠ .detaching)
    (hi : ∀ q, inSet g q = true → ((endStart p xs e s).port q).hostList = [] ∧ ((endStart p xs e s).port q).sweepList = [] ∧
      ((endStart p xs e s).port q).queue.length < Config.queuePlaces ∧ (s.plane q).link = .up ∧
      ((endStart p xs e s).port q).hostGrants = 0) :
    exec (endCommand s p x data e) s = .next (endCounted p e s v) ∧ ∀ q, v.port q =
      if inSet g q = true then ((endStart p xs e s).port q).withIssued s.now op else (endStart p xs e s).port q := by
  have hport : ∀ q, z.port q = (endStart p xs e s).port q := fun q => by simp only [State.port, hz]
  obtain ⟨-, htakes⟩ := placeOps_issues op g z fun q hq => by
    obtain ⟨h1, h2, h3, h4, -⟩ := hi q hq
    refine ⟨by rw [hport]; exact h1, by rw [hport]; exact h2, by rw [hport]; exact h3, ?_⟩
    simpa only [State.plane, hzp] using h4
  have hports : ∀ q, v.port q =
      if inSet g q = true then ((endStart p xs e s).port q).withIssued s.now op else (endStart p xs e s).port q := fun q => by
    rw [hframe]
    refine (htakes q).trans ?_
    rw [hport, hnow]
    split
    · next hq => exact Port.takes_slot_zero ho (hi q hq).2.2.2.2
    · rfl
  obtain ⟨hon, -, hhost, hswp, -⟩ := id h
  have hlists : (v.port p).hostList = [] ∧ (v.port p).sweepList = [] := by
    rw [hports]
    split
    · exact endStart_lists hhost hswp
    · exact endStart_lists hhost hswp
  refine ⟨exec_flight data h hb hf hv (by rw [hframe]; exact hy) (by rw [hframe]; exact hm) hlists.1 hlists.2 fun q hq => ?_, hports⟩
  rw [hports, if_neg fun hc => hg q hc hq, endStart_port_of_ne fun hc => by rw [hc, hon] at hq; cases hq]

end

/-! ## The acts of a sweep op's end -/

theorem State.setJob_self {u : State} {j : Job} (h : u.sweep.job = some j) : u.setJob j = u := by
  unfold State.setJob
  rw [← h]

section
variable {u : State} {k : SlotId} {w : SlotWork} {j : Job} {p : PlaneId} {d : LineData} {l : List LockEntry}

/-- The copy of a REBUILD line arrives (R96). -/
theorem settle_copy (hk : u.slot k = some w) (hj : u.sweep.job = some j) (hkind : j.kind = .rebuild) (hg : syncingTargets u j ≠ 0) :
    settleActs [.deliver { owner := .slot k, line := w.line, body := .read } p (.readOk d)] u =
      placeOps (copyWrite (.slot k) w.line d) (syncingTargets u j)
        ((if w.erred = 0 then u else postRecord (sweepRecord j w.line .readError w.erred .served) u).setSlot k
          (some { w with outstanding := dropPlane w.outstanding p, copies := w.copies ++ [(p, d)], writesOut := syncingTargets u j })) := by
  rw [settleActs_deliver_slot_read hk hj, (endSlotRead_rebuild hkind).2 d, State.setJob_self hj, copyArrived_eq hg]
  exact settleActs_nil _

/-- The last write of a line ends OK (R94, R96, R99, R102). -/
theorem settle_lastWrite {mask : ByteMask} {line : Nat} (hk : u.slot k = some w) (hj : u.sweep.job = some j) (hout : w.writesOut = onePlane p)
    (hl : lockRelease (.slot k) u.locks = (l, [])) (hother : ∃ m, m ≠ k ∧ u.slot m ≠ none)
    (hdone : u.sweep.engine ≠ .running ∨ j.last < j.cursor) :
    settleActs [.deliver { owner := .slot k, line := line, body := .write mask d } p .writeOk] u =
      { (u.setSlot k none).setJob { j with linesDone := j.linesDone + 1 } with locks := l } := by
  have hcompleted : ∀ w1 : SlotWork, w1.wroteOk = true → writesCompleted j w1 = true := fun w1 h => by
    unfold writesCompleted
    split
    · exact h
    · exact h
    · rfl
    · rfl
  have hend : endSlotWrite k w j p .writeOk u = finishLine k true (u.setSlot k (some { w with writesOut := 0, wroteOk := true })) := by
    unfold endSlotWrite
    have hok : (w.wroteOk || OpEnd.writeOk == OpEnd.writeOk) = true := by simp
    dsimp only
    rw [hout, dropPlane_onePlane, if_pos rfl, hok, hcompleted _ rfl]
  have hfinish := settle_finishLine (z := u.setSlot k (some { w with writesOut := 0, wroteOk := true })) hj hl (hother.imp fun m hm =>
    ⟨hm.1, by rw [State.setSlot_slot_other _ _ _ _ hm.1]; exact hm.2⟩) hdone
  rw [State.setSlot_setSlot] at hfinish
  rw [settleActs_deliver_slot_write hk hj, hend]
  exact hfinish

end

section
variable {u : State} {k : SlotId} {w : SlotWork} {j j' : Job}

theorem noGoodSource_room (hlen : u.suspects.length < 16) (hfree : ∀ y ∈ u.suspects, y.line ≠ w.line) :
    noGoodSource k w j u = finishLine k true (postRecord (sweepRecord j w.line .readError w.erred .unresolved)
      { u.setSlot k (some w) with suspects := u.suspects ++ [{ line := w.line, reason := .noGoodCopy, planes := w.erred }] }) := by
  have hput : suspectPut { line := w.line, reason := .noGoodCopy, planes := w.erred } u.suspects =
      some (u.suspects ++ [{ line := w.line, reason := .noGoodCopy, planes := w.erred }]) := by
    rw [suspectPut_of_line_free _ _ hfree, if_pos hlen]
  unfold noGoodSource
  rw [addSuspect_of_put _ (u.setSlot k (some w)) _ hput]
  rfl

/-- With the suspect table full the line is done and the job is ABORTING (R98). -/
theorem noGoodSource_full (hlen : 16 ≤ u.suspects.length) (hfree : ∀ y ∈ u.suspects, y.line ≠ w.line) (hrun : u.sweep.engine = .running)
    (hj : u.sweep.job = some j') : noGoodSource k w j u = finishLine k true
      { postRecord (sweepRecord j w.line .readError w.erred .untracked)
          { u.setSlot k (some w) with sticky := u.sticky ||| causeSuspectFull } with
        sweep := { (u.setSlot k (some w)).sweep with engine := .aborting, job := some { j' with outcome := some .abortedSuspectFull } } } := by
  have hput : suspectPut { line := w.line, reason := .noGoodCopy, planes := w.erred } u.suspects = none := by
    rw [suspectPut_of_line_free _ _ hfree, if_neg (by omega)]
  unfold noGoodSource
  rw [addSuspect_of_full _ (u.setSlot k (some w)) hput]
  dsimp only
  rw [if_neg nofun, postRecord_eq, postRecord_eq]
  unfold enterAborting
  rw [if_pos (by exact hrun)]
  have hj' : (u.setSlot k (some w)).sweep.job = some j' := hj
  simp only [hj']
  rfl

end

theorem and_of_or (a b c : CauseSet) : (a ||| b) &&& b = b ∧ (a ||| b ||| c) &&& b = b := by
  constructor <;> ext i <;> simp +contextual

/-- A posting keeps the sticky causes that are set. -/
theorem alarmed_and (b : RecBody) (l : DivLog) (a c : CauseSet) : l.alarmed b (a ||| c) &&& c = c := by
  unfold DivLog.alarmed
  split
  · exact (and_of_or a c _).2
  · exact (and_of_or a c 0).1

section
variable {s z : State} {p : PlaneId} {x : QueuedOp} {xs : List QueuedOp} {e : OpEnd} {k : SlotId} {j : Job} {l : List LockEntry}

/-- The event of an end that finishes its line while another slot is in flight and no line is left to claim. -/
theorem exec_finishes (data : LineData) (h : OldestEnds s p x xs e) (hb : e.fits x.op.body) (hf : e.failure = none) {o : Option SlotWork}
    (hv : settleActs [.deliver x.op p e] (endStart p xs e s) =
      settleActs (finishLine k true (z.setSlot k o)).2 (finishLine k true (z.setSlot k o)).1)
    (hj : z.sweep.job = some j) (hdone : z.sweep.engine ≠ .running ∨ j.last < j.cursor) (hl : lockRelease (.slot k) z.locks = (l, []))
    (hother : ∃ m, m ≠ k ∧ z.slot m ≠ none) (hplanes : z.planes = s.planes) (hports : z.ports = (endStart p xs e s).ports) :
    exec (endCommand s p x data e) s = .next (endCounted p e s
      { (z.setSlot k none).setJob { j with linesDone := j.linesDone + 1 } with locks := l }) := by
  obtain ⟨hon, -, hhost, hswp, -⟩ := id h
  obtain ⟨hlh, hls⟩ := endStart_lists (xs := xs) (e := e) (p := p) hhost hswp
  obtain ⟨m, hmk, hm⟩ := hother
  have hfinish := settle_finishLine (z := z.setSlot k o) hj hl ⟨m, hmk, by rw [State.setSlot_slot_other _ _ _ _ hmk]; exact hm⟩ hdone
  rw [State.setSlot_setSlot] at hfinish
  generalize hy : ({ (z.setSlot k none).setJob { j with linesDone := j.linesDone + 1 } with locks := l } : State) = y at hfinish
  have hyports : y.ports = (endStart p xs e s).ports := by rw [← hy]; exact hports
  have hport : ∀ q, y.port q = (endStart p xs e s).port q := fun q => by simp only [State.port, hyports]
  have hyslots : y.sweep.slots = (z.setSlot k none).sweep.slots := by rw [← hy]; rfl
  have hyslot : y.slot m ≠ none := by
    rw [show y.slot m = (z.setSlot k none).slot m by simp only [State.slot, hyslots], State.setSlot_slot_other z k none m hmk]
    exact hm
  refine exec_flight data h hb hf (hv.trans hfinish) (by rw [← hy]; exact hplanes) ⟨m, hyslot⟩ (by rw [hport]; exact hlh)
    (by rw [hport]; exact hls) fun q hq => (hport q).trans (endStart_port_of_ne fun hc => ?_)
  rw [hc, hon] at hq
  cases hq

end

end Sys2Proof.Machine
end

section
/-! PROOFS. The statement about the ends on a sweep line, one lemma for each of its clauses. -/

namespace Sys2Proof.Machine

section
variable {s : State} {p : PlaneId} {k : SlotId} {x : QueuedOp} {xs : List QueuedOp} {w : SlotWork} {j : Job} {e : OpEnd} {data : LineData}

/-- The job goes on after a line of slot `k`: another slot is in flight, no line is left to claim, and the slot holds its line alone. -/
abbrev GoesOn (s : State) (k : SlotId) (w : SlotWork) (j : Job) : Prop :=
  s.sweep.engine = .running ∧ j.last < j.cursor ∧ (∃ v, v ≠ k ∧ s.slot v ≠ none) ∧
    (s.locks.map LockEntry.line).Nodup ∧ (∃ e ∈ s.locks, e.line = w.line ∧ e.holders = [.slot k] ∧ e.waiting = []) ∧
    ∀ e ∈ s.locks, .slot k ∈ e.holders → e.line = w.line

/-- The lock table without a line's entry. -/
abbrev released (s : State) (w : SlotWork) : List LockEntry := s.locks.filter fun e => e.line != w.line

theorem GoesOn.release (h : GoesOn s k w j) : lockRelease (.slot k) s.locks = (released s w, []) :=
  lockRelease_line h.2.2.2.1 h.2.2.2.2.1 h.2.2.2.2.2

/-- Ports to which a sweep op goes at once, with the arbiter's counter at 0. -/
abbrev TakesSweep (u : State) (q : PlaneId) : Prop := IssuesAtOnce u q ∧ (u.port q).hostGrants = 0

/-! ## The copy of a REBUILD line -/

theorem copy_written (hends : OldestEnds s p x xs (.readOk data)) (hslot : s.slot k = some w) (hjob : s.sweep.job = some j)
    (hx : x.op = { owner := .slot k, line := w.line, body := .read }) (hkind : j.kind = .rebuild)
    (hsome : ∃ q, inSet j.targets q = true ∧ (s.plane q).state = .syncing)
    (hi : ∀ q, inSet j.targets q = true → (s.plane q).state = .syncing → TakesSweep s q) :
    ∃ g, (∀ q, inSet g q = true ↔ inSet j.targets q = true ∧ (s.plane q).state = .syncing) ∧
      ∃ u, exec (.readResponse p x.slot (s.port p).gen 0x00 data) s = .next u ∧
        (∀ q, u.port q = if inSet g q = true then ((s.setPort p { s.port p with queue := xs }).port q).withIssued s.now
          { owner := .slot k, line := w.line, body := .write (BitVec.allOnes 64) data } else (s.setPort p { s.port p with queue := xs }).port q) ∧
        (∀ v, u.slot v = if v = k then some { w with
          outstanding := dropPlane w.outstanding p, copies := w.copies ++ [(p, data)], writesOut := g } else s.slot v) ∧
        u = { if w.erred = 0 then s else postRecord (sweepRecord j w.line .readError w.erred .served) s with
          ports := u.ports, sweep := { s.sweep with slots := u.sweep.slots }, out := u.out } := by
  have hg := inSet_syncingTargets s j
  have hne : syncingTargets s j ≠ 0 := by
    obtain ⟨q, hq⟩ := hsome
    exact planeSet_ne_zero ((hg q).mpr hq)
  have hend := settle_copy (u := endStart p xs (.readOk data) s) (p := p) (d := data) hslot hjob hkind hne
  rw [show syncingTargets (endStart p xs (.readOk data) s) j = syncingTargets s j from rfl] at hend
  generalize syncingTargets s j = g at hg hne hend
  obtain ⟨hon, -⟩ := id hends
  have hport : ∀ q, inSet g q = true → (s.setPort p { s.port p with queue := xs }).port q = s.port q := fun q hq =>
    (State.setPort_port s p _ q).trans (if_neg fun hqp => by
      have := ((hg q).mp hq).2
      rw [hqp, hon] at this
      cases this)
  have hposted : ∃ log sticky, (if w.erred = 0 then endStart p xs (.readOk data) s
      else postRecord (sweepRecord j w.line .readError w.erred .served) (endStart p xs (.readOk data) s)) =
        { endStart p xs (.readOk data) s with log := log, sticky := sticky } ∧
      (if w.erred = 0 then s else postRecord (sweepRecord j w.line .readError w.erred .served) s) = { s with log := log, sticky := sticky } := by
    split
    · exact ⟨_, _, rfl, rfl⟩
    · exact ⟨_, _, postRecord_eq _ _, postRecord_eq _ _⟩
  obtain ⟨log, sticky, hfrom, hto⟩ := hposted
  rw [hfrom, ← hx] at hend
  generalize hz : State.setSlot _ k _ = z at hend
  obtain ⟨ports, out, hplaced⟩ := placeOps_frame (copyWrite (.slot k) w.line data) g z
  have hslots : ∀ v, z.slot v = if v = k then some { w with
      outstanding := dropPlane w.outstanding p, copies := w.copies ++ [(p, data)], writesOut := g } else s.slot v := fun v => by
    rw [← hz]
    exact State.setSlot_slot _ k _ v
  obtain ⟨hexec, hports⟩ := exec_slot_issues data hends (by rw [hx]; exact rfl) rfl rfl hend (y := z) (z := z) (by rw [hplaced])
    (by rw [← hz]; rfl) ⟨k, by rw [hslots, if_pos rfl]; exact nofun⟩ (by rw [← hz]; rfl) (by rw [← hz]; rfl) (by rw [← hz]; rfl)
    (fun q hq => by rw [((hg q).mp hq).2]; exact nofun) fun q hq => by
      obtain ⟨⟨h1, h2, h3, h4⟩, h5⟩ := hi q ((hg q).mp hq).1 ((hg q).mp hq).2
      rw [show (endStart p xs (.readOk data) s).port q = s.port q from hport q hq]
      exact ⟨h1, h2, h3, h4, h5⟩
  refine ⟨g, hg, _, hexec, hports, fun v => ?_, ?_⟩
  · show (placeOps _ _ _).slot v = _
    rw [hplaced]
    exact hslots v
  · rw [hto]
    show placeOps _ _ _ = _
    rw [hplaced, ← hz]
    rfl

/-! ## The last write of a line -/

theorem lastWrite_done {mask : ByteMask} {d : LineData} (hold : OldestOp s p x xs) (hdue : NothingDue s) (hslot : s.slot k = some w)
    (hjob : s.sweep.job = some j) (hx : x.op = { owner := .slot k, line := w.line, body := .write mask d })
    (hstate : (s.plane p).state = .syncing ∨ (s.plane p).state = .online) (hout : w.writesOut = onePlane p) (hgo : GoesOn s k w j) :
    exec (.writeResponse p x.slot (s.port p).gen 0x00) s = .next
      { ((s.setPort p { s.port p with queue := xs }).setSlot k none).setJob { j with linesDone := j.linesDone + 1 } with
        locks := released s w, out := {} } := by
  obtain ⟨hqueue, hhost, hsweep, hin⟩ := hold
  have hserv : (s.plane p).state.inService = true := by rcases hstate with h | h <;> rw [h] <;> rfl
  have hnot : (s.plane p).state ≠ .detaching := by rcases hstate with h | h <;> rw [h] <;> exact nofun
  obtain ⟨-, hlast, ⟨m, hmk, hm⟩, -⟩ := id hgo
  have hend := settle_lastWrite (u := (s.setPort p { s.port p with queue := xs }).quiet) (mask := mask) (d := d) (line := w.line) hslot hjob hout hgo.release ⟨m, hmk, hm⟩ (.inr hlast)
  rw [← hx] at hend
  generalize hv : ({ ((s.setPort p { s.port p with queue := xs }).quiet.setSlot k none).setJob { j with linesDone := j.linesDone + 1 } with locks := released s w } : State) = v at hend
  have hport : ∀ q, v.port q = if q = p then { s.port p with queue := xs } else s.port q := fun q => by
    rw [← hv]
    exact State.setPort_port s p _ q
  have hplanes : v.planes = s.planes := by rw [← hv]; rfl
  have hplane : ∀ q, v.plane q = s.plane q := fun q => by simp only [State.plane, hplanes]
  have hexec := takeResponse_ok false .writeOk hserv ⟨hqueue, hhost, hsweep, hin⟩ (by rw [hx]; rfl) (.inl rfl) hend
    (by rw [hport, if_pos rfl]; exact hhost) (by rw [hport, if_pos rfl]; exact hsweep)
  have hdue' : NothingDue v := by
    refine nothingDue_of_flight ⟨m, ?_⟩ fun q hq => ?_
    · rw [← hv]
      exact fun hc => hm ((State.setSlot_slot_other (s.setPort p { s.port p with queue := xs }).quiet k none m hmk).symm.trans hc)
    · rw [hplane] at hq
      have hqp : q ≠ p := fun hc => hnot (hc ▸ hq)
      rw [hport, if_neg hqp]
      exact hdue.2 q hq
  refine congrArg Host.Outcome.next (hexec.trans ?_)
  rw [hdue'.endOfEvent, ← hv]
  rfl

end

end Sys2Proof.Machine
end

section
/-! PROOFS. The ends of reads on a sweep line: the next source of a REBUILD, or none, and the vote of a VERIFY or SCRUB. -/

namespace Sys2Proof.Machine

section
variable {s : State} {p : PlaneId} {k : SlotId} {x : QueuedOp} {xs : List QueuedOp} {w : SlotWork} {j : Job} {e : OpEnd} {data d : LineData}
  {kind : RecKind} {g m marked : PlaneSet} {plain : RecOutcome} {reason : SuspectReason}

/-- A state in which the line of slot `k` is done: counted, its slot and its lock free. -/
abbrev lineDone (s : State) (k : SlotId) (w : SlotWork) (j : Job) (base : State) : State :=
  { (base.setSlot k none).setJob { j with linesDone := j.linesDone + 1 } with locks := released s w }

theorem endStart_sweep : (endStart p xs e s).sweep = s.sweep ∧ (endStart p xs e s).locks = s.locks ∧
    (endStart p xs e s).suspects = s.suspects := by
  cases e <;> exact ⟨rfl, rfl, rfl⟩

theorem endStart_slot : (endStart p xs e s).slot k = s.slot k := by
  simp only [State.slot, endStart_sweep.1]

theorem countError_cursor (w : SlotWork) (j : Job) (e : OpEnd) : (countError w j e).last = j.last ∧ (countError w j e).cursor = j.cursor ∧
    (countError w j e).id = j.id ∧ (countError w j e).kind = j.kind ∧ (countError w j e).mismatches = j.mismatches := by
  unfold countError
  split <;> exact ⟨rfl, rfl, rfl, rfl, rfl⟩

theorem Job.voted_cursor (kind : RecKind) (j : Job) : (j.voted kind).last = j.last ∧ (j.voted kind).cursor = j.cursor ∧
    (j.voted kind).kind = j.kind := by
  unfold Job.voted
  split <;> exact ⟨rfl, rfl, rfl⟩

/-! ## A REBUILD line after a DATA_ERROR -/

section
variable (hslot : s.slot k = some w) (hjob : s.sweep.job = some j) (hx : x.op = { owner := .slot k, line := w.line, body := .read })
  (hkind : j.kind = .rebuild)
include hslot hjob hx hkind

theorem settle_rebuild_error : settleActs [.deliver x.op p .dataError] (endStart p xs .dataError s) =
    settleActs (chooseSource k (w.ended p .dataError) (countError w j .dataError)
        ((endStart p xs .dataError s).setJob (countError w j .dataError))).2
      (chooseSource k (w.ended p .dataError) (countError w j .dataError)
        ((endStart p xs .dataError s).setJob (countError w j .dataError))).1 := by
  rw [hx, settleActs_deliver_slot_read (u := endStart p xs .dataError s) hslot hjob, (endSlotRead_rebuild hkind).1]

/-- The next source is asked (R95). -/
theorem source_asked (hends : OldestEnds s p x xs .dataError) {q : PlaneId} (hq : (s.plane q).state = .online ∧ inSet w.tried q = false)
    (hlow : ∀ v, (s.plane v).state = .online ∧ inSet w.tried v = false → q ≤ v) (hqp : q ≠ p) (ht : TakesSweep s q) :
    exec (endCommand s p x data .dataError) s = .next { (((planeEnded p xs .dataError s).setPort q
        ((s.port q).withIssued s.now x.op)).setSlot k (some { w.ended p .dataError with
          tried := addPlane w.tried q, outstanding := onePlane q })).setJob (countError w j .dataError) with
      out := { ops := [(q, ⟨x.op, (s.port q).nextSlot, (s.port q).gen, s.now⟩)] } } := by
  have hend := settle_rebuild_error (p := p) (xs := xs) hslot hjob hx hkind
  have hport : (endStart p xs .dataError s).port q = s.port q := endStart_port_of_ne hqp
  obtain ⟨⟨h1, h2, h3, h4⟩, h5⟩ := ht
  rw [chooseSource_next (u := (endStart p xs .dataError s).setJob (countError w j .dataError)) (w := w.ended p .dataError) hq hlow] at hend
  replace hend := hend.trans (settleActs_nil _)
  rw [show ({ owner := .slot k, line := (w.ended p .dataError).line, body := .read } : Op) = x.op from hx.symm, ← placeOps_onePlane] at hend
  generalize hz : State.setSlot _ k _ = z at hend
  have hzport : z.port q = s.port q := by rw [← hz]; exact hport
  have hzslot : z.slot k ≠ none := by rw [← hz, State.setSlot_slot_same]; exact nofun
  obtain ⟨ports, out, hplaced⟩ := placeOps_frame x.op (onePlane q) z
  have hgq : ∀ r, inSet (onePlane q) r = true → r = q := fun r hr => by simpa using hr
  obtain ⟨hexec, -⟩ := exec_slot_issues data hends (by rw [hx]; exact rfl) rfl (op := x.op) (k := k) (by rw [hx]) hend (y := z) (z := z) (by rw [hplaced])
    (by rw [← hz]; rfl) ⟨k, hzslot⟩ (by rw [← hz]; rfl) (by rw [← hz]; rfl) (by rw [← hz]; rfl)
    (fun r hr => by rw [hgq r hr, hq.1]; exact nofun) fun r hr => by
      rw [hgq r hr, hport]
      exact ⟨h1, h2, h3, h4, h5⟩
  refine hexec.trans (congrArg Host.Outcome.next ?_)
  rw [placeOps_onePlane, placeOp_issues _ z q ⟨by rw [hzport]; exact h1, by rw [hzport]; exact h2, by rw [hzport]; exact h3, by rw [← hz]; exact h4⟩]
  unfold issuedTo
  rw [hzport, Port.takes_slot_zero (k := k) (by rw [hx]) h5, ← hz]
  rfl

variable (hnone : ∀ v, ¬((s.plane v).state = .online ∧ inSet w.tried v = false))
include hnone

theorem settle_no_source : settleActs [.deliver x.op p .dataError] (endStart p xs .dataError s) =
    settleActs (noGoodSource k (w.ended p .dataError) (countError w j .dataError)
        ((endStart p xs .dataError s).setJob (countError w j .dataError))).2
      (noGoodSource k (w.ended p .dataError) (countError w j .dataError)
        ((endStart p xs .dataError s).setJob (countError w j .dataError))).1 := by
  rw [settle_rebuild_error hslot hjob hx hkind, chooseSource_none (u := (endStart p xs .dataError s).setJob (countError w j .dataError))
    (w := w.ended p .dataError) hnone (planeSet_ne_zero (p := p) (by simp [SlotWork.ended]))]

variable (hends : OldestEnds s p x xs .dataError) (hgo : GoesOn s k w j) (hfree : ∀ y ∈ s.suspects, y.line ≠ w.line)
include hends hgo hfree

/-- With no source left the suspect table takes the line, where it has room (R98). -/
theorem no_source_done (hlen : s.suspects.length < 16) :
    exec (endCommand s p x data .dataError) s = .next { postRecord
        (sweepRecord j w.line .readError (addPlane w.erred p) .unresolved)
        { lineDone s k w (countError w j .dataError) (planeEnded p xs .dataError s) with
          suspects := s.suspects ++ [{ line := w.line, reason := .noGoodCopy, planes := addPlane w.erred p }] } with out := {} } := by
  have hend := settle_no_source (p := p) (xs := xs) hslot hjob hx hkind hnone
  obtain ⟨hlast, hcursor, hid, -, -⟩ := countError_cursor w j .dataError
  rw [noGoodSource_room (u := (endStart p xs .dataError s).setJob (countError w j .dataError)) (w := w.ended p .dataError) hlen hfree, postRecord_eq] at hend
  have hrec : sweepRecord (countError w j .dataError) (w.ended p .dataError).line .readError (w.ended p .dataError).erred .unresolved =
      sweepRecord j w.line .readError (addPlane w.erred p) .unresolved := by
    unfold sweepRecord; rw [hid]; rfl
  rw [hrec] at hend
  have hexec := exec_finishes (j := countError w j .dataError) data hends (by rw [hx]; exact rfl) rfl
    (z := { (endStart p xs .dataError s).setJob (countError w j .dataError) with
      suspects := s.suspects ++ [{ line := w.line, reason := .noGoodCopy, planes := addPlane w.erred p }]
      log := s.log.posted (sweepRecord j w.line .readError (addPlane w.erred p) .unresolved)
      sticky := s.log.alarmed (sweepRecord j w.line .readError (addPlane w.erred p) .unresolved) s.sticky })
    (o := some (w.ended p .dataError)) hend rfl (.inr (by rw [hlast, hcursor]; exact hgo.2.1)) hgo.release hgo.2.2.1 rfl rfl
  refine hexec.trans (congrArg Host.Outcome.next ?_)
  rw [postRecord_eq]
  rfl

/-- With no source left and the suspect table full, the line is done and the job is ABORTING (R98). -/
theorem no_source_aborts (hlen : 16 ≤ s.suspects.length) :
    ∃ u, exec (endCommand s p x data .dataError) s = .next u ∧ u.sticky &&& causeSuspectFull = causeSuspectFull ∧
      u = { postRecord (sweepRecord j w.line .readError (addPlane w.erred p) .untracked)
          (lineDone s k w { countError w j .dataError with outcome := some .abortedSuspectFull } (planeEnded p xs .dataError s)) with
        out := {}, sticky := u.sticky
        sweep := { (lineDone s k w { countError w j .dataError with outcome := some .abortedSuspectFull }
          (planeEnded p xs .dataError s)).sweep with engine := .aborting } } := by
  have hend := settle_no_source (p := p) (xs := xs) hslot hjob hx hkind hnone
  obtain ⟨hlast, hcursor, hid, -, -⟩ := countError_cursor w j .dataError
  rw [noGoodSource_full (u := (endStart p xs .dataError s).setJob (countError w j .dataError)) (w := w.ended p .dataError) hlen hfree hgo.1 rfl, postRecord_eq] at hend
  have hrec : sweepRecord (countError w j .dataError) (w.ended p .dataError).line .readError (w.ended p .dataError).erred .untracked =
      sweepRecord j w.line .readError (addPlane w.erred p) .untracked := by
    unfold sweepRecord; rw [hid]; rfl
  rw [hrec] at hend
  have hexec := exec_finishes (j := { countError w j .dataError with outcome := some .abortedSuspectFull }) data hends (by rw [hx]; exact rfl) rfl
    (z := { endStart p xs .dataError s with
      sweep := { s.sweep with engine := .aborting, job := some { countError w j .dataError with outcome := some .abortedSuspectFull } }
      log := s.log.posted (sweepRecord j w.line .readError (addPlane w.erred p) .untracked)
      sticky := s.log.alarmed (sweepRecord j w.line .readError (addPlane w.erred p) .untracked) (s.sticky ||| causeSuspectFull) })
    (o := some (w.ended p .dataError)) hend rfl (.inl nofun) hgo.release hgo.2.2.1 rfl rfl
  refine ⟨_, hexec, alarmed_and _ _ _ _, ?_⟩
  rw [postRecord_eq]
  rfl

end

/-! ## The vote of a VERIFY or SCRUB line -/

section
variable (he : e = .readOk data ∨ e = .dataError) (hends : OldestEnds s p x xs e) (hslot : s.slot k = some w) (hjob : s.sweep.job = some j)
  (hx : x.op = { owner := .slot k, line := w.line, body := .read }) (hkind : j.kind = .verify ∨ j.kind = .scrub)
  (hout : w.outstanding = onePlane p)
include he hslot hjob hx hkind hout

theorem settle_vote_end : settleActs [.deliver x.op p e] (endStart p xs e s) =
    settleActs (settleVote k (w.ended p e) (countError w j e) ((endStart p xs e s).setJob (countError w j e))).2
      (settleVote k (w.ended p e) (countError w j e) ((endStart p xs e s).setJob (countError w j e))).1 := by
  have hout' : (w.ended p e).outstanding = 0 := by
    rw [w.ended_eq p e data he, hout]
    exact dropPlane_onePlane p
  rw [hx, settleActs_deliver_slot_read (by rw [endStart_slot]; exact hslot) (by rw [endStart_sweep.1]; exact hjob), endSlotRead_vote hkind hout']

omit hslot hjob hkind hout in
/-- A line finishes with these suspects, this log and these sticky causes. -/
theorem line_finishes (hends : OldestEnds s p x xs e) (hgo : GoesOn s k w j) {j2 : Job} {su : List SuspectEntry} {lg : DivLog}
    {st : CauseSet} {o : Option SlotWork} (hv : settleActs [.deliver x.op p e] (endStart p xs e s) = settleActs
        (finishLine k true (State.setSlot { (endStart p xs e s).setJob j2 with suspects := su, log := lg, sticky := st } k o)).2
        (finishLine k true (State.setSlot { (endStart p xs e s).setJob j2 with suspects := su, log := lg, sticky := st } k o)).1)
    (hlast : j2.last = j.last) (hcursor : j2.cursor = j.cursor) :
    exec (endCommand s p x data e) s = .next { lineDone s k w j2 (planeEnded p xs e s) with
      suspects := su, log := lg, sticky := st, out := {} } := by
  have hf : e.failure = none := by rcases he with rfl | rfl <;> rfl
  have hb : e.fits x.op.body := by rw [hx]; rcases he with rfl | rfl <;> exact rfl
  have hslots : ∀ m, s.slot m ≠ none →
      State.slot { (endStart p xs e s).setJob j2 with suspects := su, log := lg, sticky := st } m ≠ none := fun m hm => by
    show (endStart p xs e s).slot m ≠ none
    rw [endStart_slot]
    exact hm
  have hexec := exec_finishes (j := j2) (l := released s w) data hends hb hf hv rfl (.inr (by rw [hlast, hcursor]; exact hgo.2.1))
    (by rw [show State.locks { (endStart p xs e s).setJob j2 with suspects := su, log := lg, sticky := st } = s.locks from endStart_sweep.2.1]
        exact hgo.release)
    (hgo.2.2.1.imp fun m hm => ⟨hm.1, hslots m hm.2⟩) (endStart_planes (by rcases he with rfl | rfl <;> exact nofun)) rfl
  refine hexec.trans (congrArg Host.Outcome.next ?_)
  rcases he with rfl | rfl <;> rfl

/-- All copies equal and no error: the line is done (R101). -/
theorem vote_agreed_done (hends : OldestEnds s p x xs e) (hgo : GoesOn s k w j)
    (hv : vote (w.ended p e).copies (w.ended p e).erred = .agreed d) (h0 : (w.ended p e).erred = 0) :
    exec (endCommand s p x data e) s = .next { lineDone s k w (countError w j e) (planeEnded p xs e s) with out := {} } := by
  have hend := settle_vote_end (p := p) (xs := xs) he hslot hjob hx hkind hout
  obtain ⟨hlast, hcursor, -⟩ := countError_cursor w j e
  rw [settleVote_agreed hv h0, settleAgreed_plain (g := 0) (scrubPlanes_none (.inr fun q hq => absurd rfl (planeSet_ne_zero hq))),
    if_pos rfl] at hend
  have hexec := line_finishes he hx hends hgo (su := (endStart p xs e s).suspects) (lg := (endStart p xs e s).log)
    (st := (endStart p xs e s).sticky) hend hlast hcursor
  refine hexec.trans (congrArg Host.Outcome.next ?_)
  rcases he with rfl | rfl <;> rfl

/-- No copy to trust: the line is recorded UNRESOLVED and done, and a SCRUB marks it suspect (R101, R102). -/
theorem vote_distrusted_done (hends : OldestEnds s p x xs e) (hgo : GoesOn s k w j)
    (hv : vote (w.ended p e).copies (w.ended p e).erred = .split ∧ reason = .noMajority ∧ kind = .mismatch ∧
        (∀ q, inSet marked q = true ↔ ∃ c ∈ (w.ended p e).copies, c.1 = q) ∧ g = marked ||| (w.ended p e).erred ∨
      vote (w.ended p e).copies (w.ended p e).erred = .noGoodCopy ∧ reason = .noGoodCopy ∧ kind = .readError ∧
        marked = (w.ended p e).erred ∧ g = (w.ended p e).erred)
    (hroom : j.kind = .verify ∨ s.suspects.length < 16 ∧ ∀ y ∈ s.suspects, y.line ≠ w.line) :
    exec (endCommand s p x data e) s = .next { postRecord (sweepRecord j w.line kind g .unresolved)
        { lineDone s k w ((countError w j e).voted kind) (planeEnded p xs e s) with
          suspects := if j.kind = .verify then s.suspects
            else s.suspects ++ [{ line := w.line, reason := reason, planes := marked }] } with out := {} } := by
  have hend := settle_vote_end (p := p) (xs := xs) he hslot hjob hx hkind hout
  obtain ⟨hlast, hcursor, hid, hjkind, -⟩ := countError_cursor w j e
  obtain ⟨hlast', hcursor', -⟩ := (countError w j e).voted_cursor kind
  have hline : (w.ended p e).line = w.line := by rw [w.ended_eq p e data he]
  have hsus : (endStart p xs e s).suspects = s.suspects := endStart_sweep.2.2
  have hrec : sweepRecord (countError w j e) (w.ended p e).line kind g .unresolved = sweepRecord j w.line kind g .unresolved := by
    unfold sweepRecord; rw [hid, hline]
  rw [settleVote_distrusted hv, voted_setJob, settleDistrusted_eq (u := (endStart p xs e s).setJob ((countError w j e).voted kind))
    (by rw [hjkind]; exact hkind) (by
      rw [hjkind, hline, show ((endStart p xs e s).setJob ((countError w j e).voted kind)).suspects = s.suspects from hsus]
      exact hroom), hrec, postRecord_eq, hline,
    hjkind, show ((endStart p xs e s).setJob ((countError w j e).voted kind)).suspects = s.suspects from hsus] at hend
  generalize (if j.kind = .verify then s.suspects else s.suspects ++ [{ line := w.line, reason := reason, planes := marked }]) = su at hend ⊢
  have hexec := line_finishes he hx hends hgo (j2 := (countError w j e).voted kind) (su := su) (o := some (w.ended p e))
    (lg := (endStart p xs e s).log.posted (sweepRecord j w.line kind g .unresolved))
    (st := (endStart p xs e s).log.alarmed (sweepRecord j w.line kind g .unresolved) (endStart p xs e s).sticky)
    hend (hlast'.trans hlast) (hcursor'.trans hcursor)
  refine hexec.trans (congrArg Host.Outcome.next ?_)
  rw [postRecord_eq]
  rcases he with rfl | rfl <;> rfl

/-- A copy to trust after an error or with a minority, and no repair: the line is recorded and done (R101, R102). -/
theorem vote_served_done (hends : OldestEnds s p x xs e) (hgo : GoesOn s k w j) (hn : ((w.ended p e).copies.map Prod.fst).Nodup)
    (hv : vote (w.ended p e).copies (w.ended p e).erred = .agreed d ∧ (w.ended p e).erred ≠ 0 ∧ kind = .readError ∧
        g = (w.ended p e).erred ∧ plain = .served ∨
      vote (w.ended p e).copies (w.ended p e).erred = .majority d m ∧ kind = .mismatch ∧ g = m ||| (w.ended p e).erred ∧ plain = .majorityServed)
    (hrep : j.kind = .verify ∨ ∀ q, inSet g q = true → (s.plane q).state ≠ .online) :
    exec (endCommand s p x data e) s = .next { postRecord (sweepRecord j w.line kind g plain)
        (lineDone s k w ((countError w j e).voted kind) (planeEnded p xs e s)) with out := {} } := by
  have hend := settle_vote_end (p := p) (xs := xs) he hslot hjob hx hkind hout
  obtain ⟨hlast, hcursor, hid, hjkind, -⟩ := countError_cursor w j e
  obtain ⟨hlast', hcursor', -⟩ := (countError w j e).voted_cursor kind
  have hline : (w.ended p e).line = w.line := by rw [w.ended_eq p e data he]
  obtain ⟨hserve, hg, hplain⟩ := settleVote_recovered (k := k) (j := countError w j e) (u := (endStart p xs e s).setJob (countError w j e)) hn hv
  have hrec : sweepRecord (countError w j e) (w.ended p e).line kind g plain = sweepRecord j w.line kind g plain := by
    unfold sweepRecord; rw [hid, hline]
  have hplanes : ∀ q, (((endStart p xs e s).setJob ((countError w j e).voted kind)).plane q).state = (s.plane q).state := fun q => by
    rcases he with rfl | rfl <;> rfl
  rw [hserve, voted_setJob, settleAgreed_plain (u := (endStart p xs e s).setJob ((countError w j e).voted kind))
    (scrubPlanes_none (by simp only [hjkind, hplanes]; exact hrep)), if_neg hg, hplain, hrec, postRecord_eq] at hend
  have hexec := line_finishes he hx hends hgo (j2 := (countError w j e).voted kind) (su := (endStart p xs e s).suspects)
    (lg := (endStart p xs e s).log.posted (sweepRecord j w.line kind g plain))
    (st := (endStart p xs e s).log.alarmed (sweepRecord j w.line kind g plain) (endStart p xs e s).sticky)
    hend (hlast'.trans hlast) (hcursor'.trans hcursor)
  refine hexec.trans (congrArg Host.Outcome.next ?_)
  rw [postRecord_eq]
  rcases he with rfl | rfl <;> rfl

/-- A SCRUB repairs the planes that erred or differ and are ONLINE (R102). -/
theorem vote_repaired (hends : OldestEnds s p x xs e) (hscrub : j.kind = .scrub) (hn : ((w.ended p e).copies.map Prod.fst).Nodup)
    (hv : vote (w.ended p e).copies (w.ended p e).erred = .agreed d ∧ (w.ended p e).erred ≠ 0 ∧ kind = .readError ∧
        g = (w.ended p e).erred ∧ plain = .served ∨
      vote (w.ended p e).copies (w.ended p e).erred = .majority d m ∧ kind = .mismatch ∧ g = m ||| (w.ended p e).erred ∧ plain = .majorityServed)
    (hsome : ∃ q, inSet g q = true ∧ (s.plane q).state = .online)
    (hi : ∀ q, inSet g q = true → (s.plane q).state = .online → TakesSweep (planeEnded p xs e s) q) :
    ∃ repairs, (∀ q, inSet repairs q = true ↔ inSet g q = true ∧ (s.plane q).state = .online) ∧
      ∃ u, exec (endCommand s p x data e) s = .next u ∧
        (∀ q, u.port q = if inSet repairs q = true then ((planeEnded p xs e s).port q).withIssued s.now
          { owner := .slot k, line := w.line, body := .write (BitVec.allOnes 64) d } else (planeEnded p xs e s).port q) ∧
        (∀ v, u.slot v = if v = k then some { w.ended p e with writesOut := repairs } else s.slot v) ∧
        u = { postRecord (sweepRecord j w.line kind g .repaired) ((planeEnded p xs e s).setJob ((countError w j e).voted kind)) with
          ports := u.ports, sweep := { ((planeEnded p xs e s).setJob ((countError w j e).voted kind)).sweep with slots := u.sweep.slots }
          out := u.out } := by
  have hend := settle_vote_end (p := p) (xs := xs) he hslot hjob hx hkind hout
  obtain ⟨-, -, hid, hjkind, -⟩ := countError_cursor w j e
  have hline : (w.ended p e).line = w.line := by rw [w.ended_eq p e data he]
  obtain ⟨hserve, hg, -⟩ := settleVote_recovered (k := k) (j := countError w j e) (u := (endStart p xs e s).setJob (countError w j e)) hn hv
  have hrec : sweepRecord (countError w j e) (w.ended p e).line kind g .repaired = sweepRecord j w.line kind g .repaired := by
    unfold sweepRecord; rw [hid, hline]
  have hne : e ≠ .writeError := by rcases he with rfl | rfl <;> exact nofun
  have hlost : e ≠ .lost := by rcases he with rfl | rfl <;> exact nofun
  obtain ⟨hports, -, -⟩ := planeEnded_endStart (s := s) (p := p) (xs := xs) hne
  have hplanes : (endStart p xs e s).planes = s.planes := endStart_planes hlost
  have hrepairs : ∀ q, inSet (scrubPlanes ((endStart p xs e s).setJob ((countError w j e).voted kind)) (countError w j e) g) q = true ↔
      inSet g q = true ∧ (s.plane q).state = .online := fun q => by
    rw [inSet_scrubPlanes (hjkind.trans hscrub)]
    show _ ∧ ((endStart p xs e s).plane q).state = .online ↔ _
    simp only [State.plane, hplanes]
  generalize hgs : scrubPlanes ((endStart p xs e s).setJob ((countError w j e).voted kind)) (countError w j e) g = repairs at hrepairs
  rw [hserve, voted_setJob, settleAgreed_repairs (u := (endStart p xs e s).setJob ((countError w j e).voted kind)) hgs (by
    obtain ⟨q, hq⟩ := hsome
    exact planeSet_ne_zero ((hrepairs q).mpr hq)) hg, hrec,
    show copyWrite (.slot k) (w.ended p e).line d = copyWrite (.slot k) w.line d by rw [hline]] at hend
  replace hend := hend.trans (settleActs_nil _)
  dsimp only at hend
  generalize hz : State.setSlot _ k _ = z at hend
  obtain ⟨ports, out, hplaced⟩ := placeOps_frame (copyWrite (.slot k) w.line d) repairs z
  have hzslots : ∀ v, z.slot v = if v = k then some { w.ended p e with writesOut := repairs } else s.slot v := fun v => by
    rw [← hz, State.setSlot_slot]
    exact ite_congr rfl (fun _ => rfl) fun _ => endStart_slot
  have hbase : ∀ q, (planeEnded p xs e s).port q = (endStart p xs e s).port q := fun q => by simp only [State.port, hports]
  obtain ⟨hexec, hvports⟩ := exec_slot_issues data hends (by rw [hx]; rcases he with rfl | rfl <;> exact rfl)
    (by rcases he with rfl | rfl <;> rfl) (op := copyWrite (.slot k) w.line d) (k := k) rfl hend
    (y := postRecord (sweepRecord j w.line kind g .repaired) z) (z := z) (g := repairs) (by rw [hplaced, postRecord_eq, postRecord_eq])
    (by rw [postRecord_eq, ← hz]; exact hplanes) ⟨k, by
      rw [postRecord_eq]
      show z.slot k ≠ none
      rw [hzslots, if_pos rfl]
      exact nofun⟩
    (by rw [← hz]; rfl) (by rw [← hz]; exact hplanes) (by rw [← hz]; rcases he with rfl | rfl <;> rfl)
    (fun q hq => by rw [((hrepairs q).mp hq).2]; exact nofun) fun q hq => by
      obtain ⟨⟨h1, h2, h3, h4⟩, h5⟩ := hi q ((hrepairs q).mp hq).1 ((hrepairs q).mp hq).2
      rw [hbase] at h1 h2 h3 h5
      refine ⟨h1, h2, h3, ?_, h5⟩
      have hlink := ((planeEnded_endStart (s := s) (p := p) (xs := xs) hne).2.2 q).2
      rw [h4] at hlink
      rw [hlink]
      simp only [State.plane, hplanes]
  generalize hv' : postRecord _ (placeOps _ repairs z) = v at hexec hvports
  refine ⟨repairs, hrepairs, _, hexec, fun q => ?_, fun m => ?_, ?_⟩
  · rw [hbase]
    refine Eq.trans ?_ (hvports q)
    rcases he with rfl | rfl <;> rfl
  · have hvsweep : (endCounted p e s v).sweep = z.sweep := by
      rw [← hv', hplaced, postRecord_eq]
      rcases he with rfl | rfl <;> rfl
    rw [show (endCounted p e s v).slot m = z.slot m by simp only [State.slot, hvsweep]]
    exact hzslots m
  · rw [← hv', hplaced, postRecord_eq, postRecord_eq, ← hz]
    rcases he with rfl | rfl <;> rfl

end
end

end Sys2Proof.Machine
end

section
/-! PROOFS. The statement about the ends on a sweep line, from its clauses. -/

namespace Sys2Proof.Machine

/-- Settles O54: by the kind of the job, by what is left to read, and by the vote. -/
theorem sweepLineEnds : Obligations.SweepLineEnds := by
  intro p k x xs w j data s hqueue hhost hsweep hin hslot hjob hdue popped goesOn released takes record writes
  refine ⟨fun hon hx hkind hsome hi => ?copy, fun mask d hx hstate hout hgo => ?written, fun e he hends hx => ?reads⟩
  case copy =>
    exact copy_written ⟨hon, hqueue, hhost, hsweep, hin, hdue, nofun, fun h => absurd rfl h⟩ hslot hjob hx hkind hsome hi
  case written =>
    exact lastWrite_done ⟨hqueue, hhost, hsweep, hin⟩ hdue hslot hjob hx (hstate.imp And.left And.left) hout hgo
  case reads =>
    intro run base copies erred j1 done
    have hj1 : countError w j e = j1 := by
      unfold countError countUp
      simp only [j1]
      split <;> rfl
    have hvoted : ∀ kind : RecKind, (countError w j e).voted kind =
        if kind = .mismatch then { j1 with mismatches := min (j.mismatches + 1) 65535 } else j1 := fun kind => by
      rw [hj1]
      rfl
    have hw1 : w.ended p e = { w with outstanding := dropPlane w.outstanding p, copies := copies, erred := erred } := w.ended_eq p e data he
    have hcopies : (w.ended p e).copies = copies := by rw [hw1]
    have herred : (w.ended p e).erred = erred := by rw [hw1]
    refine ⟨fun hkind hde => ?rebuild, fun hkind hout hnodup => ?vote⟩
    case rebuild =>
      subst hde
      refine ⟨fun q hq hlow hqp ht => ?_, fun hnone hgo hfree => ⟨fun hlen => ?_, fun hlen => ?_⟩⟩
      · have hexec := source_asked (data := data) hslot hjob hx hkind hends hq hlow hqp ht
        rw [hj1] at hexec
        exact hexec
      · have hexec := no_source_done (data := data) hslot hjob hx hkind hnone hends hgo hfree hlen
        rw [hj1] at hexec
        exact hexec
      · have hexec := no_source_aborts (data := data) hslot hjob hx hkind hnone hends hgo hfree hlen
        rw [hj1] at hexec
        exact hexec
    case vote =>
      refine ⟨fun d hgo hv h0 => ?agreed, fun reason kind g marked hgo hv hroom => ?distrusted, fun d m kind g plain hv => ?divided⟩
      case agreed =>
        have hexec := vote_agreed_done (d := d) he hslot hjob hx hkind hout hends hgo (by rw [hcopies, herred]; exact hv) (herred.trans h0)
        rw [hj1] at hexec
        exact hexec
      case distrusted =>
        have hexec := vote_distrusted_done (kind := kind) (g := g) (marked := marked) (reason := reason) he hslot hjob hx hkind hout hends hgo
          (by rw [hcopies, herred]; exact hv) hroom
        rw [hvoted] at hexec
        exact hexec
      case divided =>
        intro j2
        refine ⟨fun hgo hrep => ?_, fun hscrub hsome hi => ?_⟩
        · have hexec := vote_served_done (kind := kind) (g := g) (m := m) (d := d) (plain := plain) he hslot hjob hx hkind hout hends hgo
            (by rw [hcopies]; exact hnodup) (by rw [hcopies, herred]; exact hv) hrep
          rw [hvoted] at hexec
          exact hexec
        · have hexec := vote_repaired (kind := kind) (g := g) (m := m) (d := d) (plain := plain) he hslot hjob hx hkind hout hends hscrub
            (by rw [hcopies]; exact hnodup) (by rw [hcopies, herred]; exact hv) hsome hi
          rw [hvoted, hw1, hout, dropPlane_onePlane] at hexec
          exact hexec

end Sys2Proof.Machine
end

section
/-! PROOFS. The first claims of a job: what they leave of the lock table, the slots and the ports, one line after the other. -/

namespace Sys2Proof.Machine

/-! ## One port -/

/-- A port takes sweep ops, and an arbiter may issue from its lists: no op is lost, no host op joins, the queue grows at its tail (R146, R147). -/
structure Port.Receives (l : List Op) (q q' : Port) : Prop where
  ops : q'.allOps.Perm (q.allOps ++ l)
  host : q'.hostList <:+ q.hostList
  queue : q.queue <+: q'.queue

theorem Port.Receives.refl (q : Port) : Port.Receives [] q q := ⟨by rw [List.append_nil], List.suffix_rfl, List.prefix_rfl⟩

theorem Port.Receives.trans {l m : List Op} {a b c : Port} (h : Port.Receives l a b) (k : Port.Receives m b c) :
    Port.Receives (l ++ m) a c :=
  ⟨k.ops.trans (by rw [← List.append_assoc]; exact h.ops.append_right m), k.host.trans h.host, h.queue.trans k.queue⟩

theorem Port.Receives.enlist {op : Op} {k : SlotId} (h : op.owner = .slot k) (q : Port) : Port.Receives [op] q (q.enlist op) := by
  unfold Port.enlist
  rw [h]
  exact ⟨by simp [Port.allOps], List.suffix_rfl, List.prefix_rfl⟩

theorem Port.Receives.grantOne {share now : Nat} {q q' : Port} (h : q.grantOne share now = some q') : Port.Receives [] q q' := by
  obtain ⟨-, op, n, hlists, he⟩ := grantOne_cases share now q q' h
  have hqueue : q'.queue = q.queue ++ [{ op := op, slot := q.nextSlot, gen := q.gen, issuedAt := now }] := by rw [he]
  refine ⟨?_, ?_, by rw [hqueue]; exact List.prefix_append ..⟩
  · unfold Port.allOps
    rw [hqueue, List.map_append, List.append_nil]
    rcases hlists with ⟨hh, hs⟩ | ⟨hs, hh⟩
    · rw [hh, hs]
      simp
    · rw [hh, hs]
      simp only [List.map_cons, List.map_nil, List.append_assoc, List.cons_append, List.nil_append]
      exact (List.perm_middle.symm).append_left _
  · rcases hlists with ⟨hh, -⟩ | ⟨-, hh⟩
    · rw [hh]; exact List.suffix_cons ..
    · rw [hh]

theorem arbitrate_receives (p q : PlaneId) (s : State) : Port.Receives [] (s.port q) ((arbitrate p s).port q) := by
  refine arbitrate_keeps (fun t => Port.Receives [] (s.port q) (t.port q)) p (fun t u ht hg => ?_) s (.refl _)
  obtain ⟨-, x, ops, hx, rfl⟩ := grantOp_cases p t u hg
  refine ht.trans (m := []) ?_
  show Port.Receives [] (t.port q) ((t.setPort p x).port q)
  rw [State.setPort_port]
  split
  · next h => rw [h]; exact .grantOne hx
  · exact .refl _

section
variable {op : Op} {k : SlotId}

theorem placeOp_receives (h : op.owner = .slot k) (s : State) (p q : PlaneId) :
    Port.Receives (if q = p then [op] else []) (s.port q) ((placeOp op s p).port q) := by
  rw [placeOp_eq, ← List.append_nil (if q = p then [op] else [])]
  refine Port.Receives.trans (b := (s.setPort p ((s.port p).enlist op)).port q) ?_ (arbitrate_receives p q _)
  rw [State.setPort_port]
  split
  · next hq => rw [hq]; exact .enlist h _
  · exact .refl _

theorem placeOps_receives (h : op.owner = .slot k) (g : PlaneSet) (s : State) (q : PlaneId) :
    Port.Receives (if inSet g q = true then [op] else []) (s.port q) ((placeOps op g s).port q) := by
  have hnodup := planesOf_nodup g
  simp only [← mem_planesOf]
  unfold placeOps
  generalize planesOf g = l at hnodup
  induction l generalizing s with
  | nil => exact .refl _
  | cons p l ih =>
    obtain ⟨hp, hl⟩ := List.nodup_cons.mp hnodup
    have hrest := (placeOp_receives h s p q).trans (ih (placeOp op s p) hl)
    by_cases hq : q = p
    · subst hq
      simpa [hp] using hrest
    · simpa [hq] using hrest

end

/-! ## The lock table -/

theorem lockOf_eq_none (l : List LockEntry) (line : Nat) : lockOf l line = none ↔ ∀ e ∈ l, e.line ≠ line := by
  simp [lockOf]

/-- A sweep claim on a line with an entry waits at the tail of the first such entry's list (R24). -/
theorem lockPlace_sweep_waits (k : SlotId) (line : Nat) (l : List LockEntry) (h : ∃ e ∈ l, e.line = line) :
    ∃ a e b, l = a ++ e :: b ∧ e.line = line ∧
      lockPlace { pos := .slot k, kind := .sweep } line l =
        (a ++ { e with waiting := e.waiting ++ [{ pos := .slot k, kind := .sweep }] } :: b, false) := by
  induction l with
  | nil => obtain ⟨e, he, -⟩ := h; cases he
  | cons x xs ih =>
    rw [lockPlace]
    by_cases hx : x.line = line
    · exact ⟨[], x, xs, rfl, hx, by rw [if_pos hx]; rfl⟩
    · obtain ⟨e, he, hline⟩ := h
      have hxs : ∃ e ∈ xs, e.line = line := by
        rcases List.mem_cons.mp he with rfl | he
        · exact absurd hline hx
        · exact ⟨e, he, hline⟩
      obtain ⟨a, e', b, rfl, hline', hplace⟩ := ih hxs
      exact ⟨x :: a, e', b, rfl, hline', by rw [if_neg hx, hplace]; rfl⟩

/-! ## One line -/

/-- The work of a line that is granted to a slot of the job: an op on each plane of a set, and nothing that ends the line (R95, R99, R100). -/
def StartsLine (z : State) (j : Job) (g : PlaneSet) (body : OpBody) (held : Nat → SlotWork) (line : Nat) : Prop :=
  ∀ (k : SlotId) (u : State) (c : Nat), u.planes = z.planes → u.suspects = z.suspects → u.sweep.job = some { j with cursor := c } →
    u.slot k = some { line := line } → startSlot k u =
      (placeOps { owner := .slot k, line := line, body := body } g (u.setSlot k (some (held line))), [])

/-- The op of a slot's line, the lines from the cursor on taken by the slots in their order. -/
def lineOp (j : Job) (body : OpBody) (m : SlotId) : Op := { owner := .slot m, line := j.cursor + m.val, body := body }

/-- What the first `n` claims of a job leave (R92, R93): the slots below `n` have a line each, those granted with their ops placed. -/
structure Claimed (z : State) (j : Job) (g : PlaneSet) (body : OpBody) (held : Nat → SlotWork) (n : Nat) (granted : List SlotId)
    (u : State) : Prop where
  frame : u = { z with
    locks := u.locks, ports := u.ports, out := u.out
    sweep := { z.sweep with slots := u.sweep.slots, job := some { j with cursor := j.cursor + n } } }
  nodup : granted.Nodup
  mem : ∀ m, m ∈ granted ↔ m.val < n ∧ ∀ e ∈ z.locks, e.line ≠ j.cursor + m.val
  slot : ∀ m, u.slot m = if n ≤ m.val then none else if m ∈ granted then some (held (j.cursor + m.val)) else some { line := j.cursor + m.val }
  lines : ∀ line, (∃ e ∈ u.locks, e.line = line) ↔ (∃ e ∈ z.locks, e.line = line) ∨ ∃ m ∈ granted, line = j.cursor + m.val
  holds : ∀ m ∈ granted, ∃ e ∈ u.locks, e.line = j.cursor + m.val ∧ e.holders = [.slot m] ∧ e.kind = some .sweep
  waits : ∀ m : SlotId, m.val < n → m ∉ granted →
    ∃ e ∈ u.locks, e.line = j.cursor + m.val ∧ { pos := .slot m, kind := .sweep } ∈ e.waiting
  port : ∀ q, Port.Receives (if inSet g q = true then granted.map (lineOp j body) else []) (z.port q) (u.port q)

section
variable {z u : State} {j : Job} {g : PlaneSet} {body : OpBody} {held : Nat → SlotWork} {n : Nat} {granted : List SlotId}

theorem claimed_none (hj : z.sweep.job = some j) (hslots : ∀ m, z.slot m = none) : Claimed z j g body held 0 [] z := by
  refine ⟨?_, List.nodup_nil, fun m => by simp, fun m => by simp [hslots], fun line => by simp, nofun, nofun, fun q => ?_⟩
  · rw [Nat.add_zero, show ({ j with cursor := j.cursor } : Job) = j from rfl, ← hj]
  · split <;> exact .refl _

theorem Claimed.flight (h : Claimed z j g body held n granted u) (hn : n ≤ 4) : (slotsInFlight u).length = n := by
  have hsome : ∀ m, (u.slot m).isSome = decide (m.val < n) := fun m => by
    rw [h.slot]
    split
    · next hm => simp [hm]
    · next hm => split <;> simp [Nat.lt_of_not_le hm]
  have hcount : ∀ n, n ≤ 4 → (allSlots.filter fun m => decide (m.val < n)).length = n := by decide
  unfold slotsInFlight
  simp only [hsome]
  exact hcount n hn

theorem Claimed.free (h : Claimed z j g body held n granted u) (hn : n < 4) : freeSlot u = some ⟨n, hn⟩ := by
  refine freeSlot_eq_some (by rw [h.slot]; simp) fun m hm => ?_
  have hlt : m.val < n := hm
  rw [h.slot, if_neg (by omega)]
  split <;> simp

/-- A claim is placed where the window allows one (R92). -/
theorem Claimed.placeNext (h : Claimed z j g body held n granted u) (hn : n < 4) (he : z.sweep.engine = .running)
    (hc : j.cursor + n ≤ j.last) (hw : n < j.window) : placeNext u =
      ((u.setSlot ⟨n, hn⟩ (some { line := j.cursor + n })).setJob { j with cursor := j.cursor + n + 1 },
        [.place (.slot ⟨n, hn⟩) .sweep (j.cursor + n), .sweepPlace]) := by
  have hengine : u.sweep.engine = .running := by rw [h.frame]; exact he
  have hjob : u.sweep.job = some { j with cursor := j.cursor + n } := by rw [h.frame]
  unfold Machine.placeNext
  simp only [hengine, hjob, h.free hn, h.flight (Nat.le_of_lt hn)]
  exact if_pos ⟨hc, hw⟩

/-- A line held at once and its ops placed (R24, R93). -/
theorem Claimed.snoc {w : State} (h : Claimed z j g body held n granted u) (hn : n < 4) (hfree : ∀ e ∈ z.locks, e.line ≠ j.cursor + n)
    (hframe : w = { z with
      locks := w.locks, ports := w.ports, out := w.out
      sweep := { z.sweep with slots := w.sweep.slots, job := some { j with cursor := j.cursor + (n + 1) } } })
    (hslot : ∀ m, w.slot m = if m = ⟨n, hn⟩ then some (held (j.cursor + n)) else u.slot m)
    (hlocks : w.locks = u.locks ++ [{ line := j.cursor + n, kind := some .sweep, holders := [.slot ⟨n, hn⟩], waiting := [] }])
    (hport : ∀ q, Port.Receives (if inSet g q = true then [lineOp j body ⟨n, hn⟩] else []) (u.port q) (w.port q)) :
    Claimed z j g body held (n + 1) (granted ++ [⟨n, hn⟩]) w := by
  have hnew : ∀ m : SlotId, m = ⟨n, hn⟩ ↔ m.val = n := fun m => Fin.ext_iff
  have hkept : ∀ {P : LockEntry → Prop}, (∃ e ∈ u.locks, P e) → ∃ e ∈ w.locks, P e := fun ⟨e, he, hp⟩ =>
    ⟨e, by rw [hlocks]; exact List.mem_append_left _ he, hp⟩
  have hentry : ∀ {P : LockEntry → Prop}, P { line := j.cursor + n, kind := some .sweep, holders := [.slot ⟨n, hn⟩], waiting := [] } →
      ∃ e ∈ w.locks, P e := fun hp => ⟨_, by rw [hlocks]; exact List.mem_append_right _ (List.mem_singleton_self _), hp⟩
  refine ⟨hframe, ?nodup, fun m => ?mem, fun m => ?slot, fun line => ?lines, fun m hm => ?holds, fun m hm hg => ?waits, fun q => ?port⟩
  case nodup =>
    refine List.nodup_append.mpr ⟨h.nodup, List.nodup_singleton _, fun a ha b hb hab => ?_⟩
    have hlt := ((h.mem a).mp ha).1
    rw [hab, List.mem_singleton.mp hb] at hlt
    exact Nat.lt_irrefl n hlt
  case mem =>
    rw [List.mem_append, List.mem_singleton, h.mem, hnew]
    constructor
    · rintro (⟨hm, hl⟩ | hm)
      · exact ⟨by omega, hl⟩
      · exact ⟨by omega, hm ▸ hfree⟩
    · rintro ⟨hm, hl⟩
      by_cases hmn : m.val = n
      · exact .inr hmn
      · exact .inl ⟨by omega, hl⟩
  case slot =>
    rw [hslot, h.slot]
    simp only [List.mem_append, List.mem_singleton, hnew]
    by_cases hmn : m.val = n
    · rw [if_pos hmn, if_neg (by omega), if_pos (.inr hmn), hmn]
    · simp only [hmn, or_false, if_false]
      by_cases hm : n ≤ m.val
      · rw [if_pos hm, if_pos (by omega)]
      · rw [if_neg hm, if_neg (show ¬n + 1 ≤ m.val by omega)]
  case lines =>
    constructor
    · rintro ⟨e, hmem, hline⟩
      rw [hlocks] at hmem
      rcases List.mem_append.mp hmem with hmem | hmem
      · exact ((h.lines line).mp ⟨e, hmem, hline⟩).imp id fun ⟨m, hm, hml⟩ => ⟨m, List.mem_append_left _ hm, hml⟩
      · rw [List.mem_singleton.mp hmem] at hline
        exact .inr ⟨_, List.mem_append_right _ (List.mem_singleton_self _), hline.symm⟩
    · rintro (hz | ⟨m, hm, hml⟩)
      · exact hkept ((h.lines line).mpr (.inl hz))
      · rcases List.mem_append.mp hm with hm | hm
        · exact hkept ((h.lines line).mpr (.inr ⟨m, hm, hml⟩))
        · rw [List.mem_singleton.mp hm] at hml
          exact hentry hml.symm
  case holds =>
    rcases List.mem_append.mp hm with hm | hm
    · exact hkept (h.holds m hm)
    · rw [List.mem_singleton.mp hm]
      exact hentry ⟨rfl, rfl, rfl⟩
  case waits =>
    simp only [List.mem_append, List.mem_singleton, hnew, not_or] at hg
    exact hkept (h.waits m (by omega) hg.1)
  case port =>
    have hq := (h.port q).trans (hport q)
    by_cases hg : inSet g q = true
    · simpa only [hg, if_true, List.map_append, List.map_cons, List.map_nil] using hq
    · simpa only [hg, Bool.false_eq_true, if_false, List.append_nil] using hq

/-- A line is held at once where no entry has it (R24, R93). -/
theorem Claimed.grants (h : Claimed z j g body held n granted u) (hn : n < 4) (he : z.sweep.engine = .running)
    (hc : j.cursor + n ≤ j.last) (hw : n < j.window) (hstart : StartsLine z j g body held (j.cursor + n))
    (hfree : ∀ e ∈ z.locks, e.line ≠ j.cursor + n) :
    ∃ u', Claimed z j g body held (n + 1) (granted ++ [⟨n, hn⟩]) u' ∧ settleActs [.sweepPlace] u = settleActs [.sweepPlace] u' := by
  have habsent : lockOf u.locks (j.cursor + n) = none := by
    rw [lockOf_eq_none]
    intro e hmem hline
    rcases (h.lines (j.cursor + n)).mp ⟨e, hmem, hline⟩ with ⟨x, hx, hxl⟩ | ⟨m, hm, hml⟩
    · exact hfree x hx hxl
    · have := ((h.mem m).mp hm).1
      omega
  generalize hv : ({ (u.setSlot ⟨n, hn⟩ (some { line := j.cursor + n })).setJob { j with cursor := j.cursor + n + 1 } with
    locks := u.locks ++ [{ line := j.cursor + n, kind := some .sweep, holders := [.slot ⟨n, hn⟩], waiting := [] }] } : State) = v
  have hplace : placeClaim (.slot ⟨n, hn⟩) .sweep (j.cursor + n)
      ((u.setSlot ⟨n, hn⟩ (some { line := j.cursor + n })).setJob { j with cursor := j.cursor + n + 1 }) = (v, [.start (.slot ⟨n, hn⟩)]) := by
    unfold placeClaim
    rw [show ((u.setSlot ⟨n, hn⟩ (some { line := j.cursor + n })).setJob { j with cursor := j.cursor + n + 1 }).locks = u.locks from rfl,
      lockPlace_absent _ _ _ habsent, ← hv]
    rfl
  have hvframe : v = { z with
      locks := v.locks, ports := u.ports, out := u.out
      sweep := { z.sweep with slots := v.sweep.slots, job := some { j with cursor := j.cursor + (n + 1) } } } := by
    rw [← hv]
    conv => lhs; rw [h.frame]
    rfl
  have hstarted := hstart ⟨n, hn⟩ v (j.cursor + (n + 1)) (by rw [hvframe]) (by rw [hvframe]) (by rw [hvframe])
    (by rw [← hv]; exact State.setSlot_slot_same u _ _)
  generalize hx : v.setSlot ⟨n, hn⟩ (some (held (j.cursor + n))) = x at hstarted
  have hxslot : ∀ m, x.slot m = if m = ⟨n, hn⟩ then some (held (j.cursor + n)) else u.slot m := fun m => by
    rw [← hx, State.setSlot_slot]
    split
    · rfl
    · next hm =>
      have hv' : v.slot m = (u.setSlot ⟨n, hn⟩ (some { line := j.cursor + n })).slot m := by rw [← hv]; rfl
      rw [hv', State.setSlot_slot, if_neg hm]
  have hreceives := placeOps_receives (op := lineOp j body ⟨n, hn⟩) rfl g x
  obtain ⟨ports, out, hops⟩ := placeOps_frame (lineOp j body ⟨n, hn⟩) g x
  refine ⟨placeOps (lineOp j body ⟨n, hn⟩) g x, h.snoc hn hfree ?_ (fun m => ?_) ?_ fun q => ?_, ?_⟩
  · rw [hops, ← hx]
    conv => lhs; rw [hvframe]
    rfl
  · rw [← hxslot, hops]
    rfl
  · rw [hops, ← hx, ← hv]
    rfl
  · have hport : x.port q = u.port q := by rw [← hx, ← hv]; rfl
    exact hport ▸ hreceives q
  · rw [settleActs_cons, show perform .sweepPlace u = _ from h.placeNext hn he hc hw]
    dsimp only
    rw [List.append_nil, settleActs_cons, show perform (.place _ _ _) _ = _ from hplace]
    dsimp only
    rw [List.singleton_append, settleActs_cons, show perform (.start (.slot ⟨n, hn⟩)) v = _ from hstarted]
    rfl

/-- A line that waits behind its entry (R24). -/
theorem Claimed.behind {v : State} (h : Claimed z j g body held n granted u) (hn : n < 4) (hfree : ¬∀ e ∈ z.locks, e.line ≠ j.cursor + n)
    (hframe : v = { z with
      locks := v.locks, ports := v.ports, out := v.out
      sweep := { z.sweep with slots := v.sweep.slots, job := some { j with cursor := j.cursor + (n + 1) } } })
    (hslot : ∀ m, v.slot m = if m = ⟨n, hn⟩ then some { line := j.cursor + n } else u.slot m)
    (hlines : v.locks.map LockEntry.line = u.locks.map LockEntry.line)
    (hkept : ∀ x ∈ u.locks, ∃ y ∈ v.locks, y.line = x.line ∧ y.kind = x.kind ∧ y.holders = x.holders ∧ ∀ c ∈ x.waiting, c ∈ y.waiting)
    (hwaits : ∃ e ∈ v.locks, e.line = j.cursor + n ∧ { pos := .slot ⟨n, hn⟩, kind := .sweep } ∈ e.waiting)
    (hports : v.ports = u.ports) : Claimed z j g body held (n + 1) granted v := by
  have hnew : ∀ m : SlotId, m = ⟨n, hn⟩ ↔ m.val = n := fun m => Fin.ext_iff
  have hnot : ∀ m : SlotId, m.val = n → m ∉ granted := fun m hm hg => by
    have := ((h.mem m).mp hg).1
    omega
  refine ⟨hframe, h.nodup, fun m => ?mem, fun m => ?slot, fun line => ?lines, fun m hm => ?holds, fun m hm hg => ?waits, fun q => ?port⟩
  case mem =>
    rw [h.mem]
    refine ⟨fun ⟨hm, hl⟩ => ⟨by omega, hl⟩, fun ⟨hm, hl⟩ => ⟨?_, hl⟩⟩
    by_contra hge
    have hmn : m.val = n := by omega
    exact hfree (hmn ▸ hl)
  case slot =>
    rw [hslot, h.slot]
    simp only [hnew]
    by_cases hmn : m.val = n
    · rw [if_pos hmn, if_neg (by omega), if_neg (hnot m hmn), hmn]
    · simp only [hmn, if_false]
      by_cases hm : n ≤ m.val
      · rw [if_pos hm, if_pos (by omega)]
      · rw [if_neg hm, if_neg (show ¬n + 1 ≤ m.val by omega)]
  case lines =>
    have hmem : (∃ e ∈ v.locks, e.line = line) ↔ ∃ e ∈ u.locks, e.line = line := by
      simp only [← List.mem_map, hlines]
    exact hmem.trans (h.lines line)
  case holds =>
    obtain ⟨x, hx, hxl, hxh, hxk⟩ := h.holds m hm
    obtain ⟨y, hy, hyl, hyk, hyh, -⟩ := hkept x hx
    exact ⟨y, hy, hyl.trans hxl, hyh.trans hxh, hyk.trans hxk⟩
  case waits =>
    by_cases hmn : m.val = n
    · obtain rfl := (hnew m).mpr hmn
      exact hwaits
    · obtain ⟨x, hx, hxl, hxw⟩ := h.waits m (by omega) hg
      obtain ⟨y, hy, hyl, -, -, hyw⟩ := hkept x hx
      exact ⟨y, hy, hyl.trans hxl, hyw _ hxw⟩
  case port =>
    have hport : v.port q = u.port q := by simp only [State.port, hports]
    rw [hport]
    exact h.port q

/-- A line waits where an entry has it (R24). -/
theorem Claimed.waitsNext (h : Claimed z j g body held n granted u) (hn : n < 4) (he : z.sweep.engine = .running)
    (hc : j.cursor + n ≤ j.last) (hw : n < j.window) (hfree : ¬∀ e ∈ z.locks, e.line ≠ j.cursor + n) :
    ∃ u', Claimed z j g body held (n + 1) granted u' ∧ settleActs [.sweepPlace] u = settleActs [.sweepPlace] u' := by
  have hentry : ∃ e ∈ u.locks, e.line = j.cursor + n := (h.lines _).mpr (.inl (by simpa using hfree))
  obtain ⟨a, e, b, hlocks, hline, hplace⟩ := lockPlace_sweep_waits ⟨n, hn⟩ (j.cursor + n) u.locks hentry
  generalize hx : ({ e with waiting := e.waiting ++ [{ pos := .slot ⟨n, hn⟩, kind := .sweep }] } : LockEntry) = x at hplace
  generalize hv : ({ (u.setSlot ⟨n, hn⟩ (some { line := j.cursor + n })).setJob { j with cursor := j.cursor + n + 1 } with
    locks := a ++ x :: b } : State) = v
  have hplaced : placeClaim (.slot ⟨n, hn⟩) .sweep (j.cursor + n)
      ((u.setSlot ⟨n, hn⟩ (some { line := j.cursor + n })).setJob { j with cursor := j.cursor + n + 1 }) = (v, []) := by
    unfold placeClaim
    rw [show ((u.setSlot ⟨n, hn⟩ (some { line := j.cursor + n })).setJob { j with cursor := j.cursor + n + 1 }).locks = u.locks from rfl,
      hplace, ← hv]
    rfl
  have hvlocks : v.locks = a ++ x :: b := by rw [← hv]
  have hxline : x.line = e.line := by rw [← hx]
  have hxmem : x ∈ v.locks := by rw [hvlocks]; exact List.mem_append_right _ List.mem_cons_self
  refine ⟨v, h.behind hn hfree ?_ (fun m => ?_) ?_ (fun y hy => ?_) ⟨x, hxmem, hxline.trans hline, ?_⟩ (by rw [← hv]; rfl), ?_⟩
  · rw [← hv]
    conv => lhs; rw [h.frame]
    rfl
  · rw [← State.setSlot_slot, ← hv]
    rfl
  · rw [hvlocks, hlocks]
    simp [hxline]
  · rw [hlocks] at hy
    rcases List.mem_append.mp hy with hy | hy
    · exact ⟨y, by rw [hvlocks]; exact List.mem_append_left _ hy, rfl, rfl, rfl, fun _ hc => hc⟩
    · rcases List.mem_cons.mp hy with rfl | hy
      · exact ⟨x, hxmem, hxline, by rw [← hx], by rw [← hx], fun c hc => by rw [← hx]; exact List.mem_append_left _ hc⟩
      · exact ⟨y, by rw [hvlocks]; exact List.mem_append_right _ (List.mem_cons_of_mem _ hy), rfl, rfl, rfl, fun _ hc => hc⟩
  · rw [← hx]
    exact List.mem_append_right _ (List.mem_singleton_self _)
  · rw [settleActs_cons, show perform .sweepPlace u = _ from h.placeNext hn he hc hw]
    dsimp only
    rw [List.append_nil, settleActs_cons, show perform (.place _ _ _) _ = _ from hplaced]
    rfl

/-- The engine claims as many lines as the window allows, and no more (R92). -/
theorem settleActs_firstClaims (hj : z.sweep.job = some j) (he : z.sweep.engine = .running) (hslots : ∀ m, z.slot m = none)
    (hw : j.window ≤ 4) (hstart : ∀ n, n < min j.window (j.last + 1 - j.cursor) → StartsLine z j g body held (j.cursor + n)) :
    ∃ granted, Claimed z j g body held (min j.window (j.last + 1 - j.cursor)) granted (settleActs [.sweepPlace] z) := by
  have hclaims : ∀ n, n ≤ min j.window (j.last + 1 - j.cursor) →
      ∃ granted u, Claimed z j g body held n granted u ∧ settleActs [.sweepPlace] z = settleActs [.sweepPlace] u := by
    intro n
    induction n with
    | zero => exact fun _ => ⟨[], z, claimed_none hj hslots, rfl⟩
    | succ n ih =>
      intro hn
      obtain ⟨granted, u, hu, hz⟩ := ih (by omega)
      by_cases hfree : ∀ e ∈ z.locks, e.line ≠ j.cursor + n
      · obtain ⟨u', hu', hz'⟩ := hu.grants (by omega) he (by omega) (by omega) (hstart n (by omega)) hfree
        exact ⟨_, u', hu', hz.trans hz'⟩
      · obtain ⟨u', hu', hz'⟩ := hu.waitsNext (by omega) he (by omega) (by omega) hfree
        exact ⟨_, u', hu', hz.trans hz'⟩
  obtain ⟨granted, u, hu, hz⟩ := hclaims _ le_rfl
  refine ⟨granted, ?_⟩
  rw [hz, settleActs_sweepPlace_idle [] (.inr fun j' hj' => ?_), settleActs_nil]
  · exact hu
  · rw [hu.frame] at hj'
    cases hj'
    rw [hu.flight (by omega)]
    show j.last < j.cursor + _ ∨ j.window ≤ _
    omega

end

end Sys2Proof.Machine
end

section
/-! PROOFS. How the first lines of a job start, by its kind, and what a SWEEP_START leaves whatever the lock table holds. -/

namespace Sys2Proof.Machine

/-! ## Acts of one class -/

/-- What the acts of a class keep, where they bring acts of the class alone, an event of such acts keeps. -/
theorem settleActs_within {A : Act → Prop} {P : State → Prop}
    (h : ∀ a s, A a → P s → P (perform a s).1 ∧ ∀ b ∈ (perform a s).2, A b) {acts : List Act} {s : State} (ha : ∀ a ∈ acts, A a) (hs : P s) :
    P (settleActs acts s) := by
  have hruns := runs_settleActs acts s
  generalize settleActs acts s = t at hruns
  induction hruns with
  | nil s => exact hs
  | cons a as s t _ ih =>
    obtain ⟨hp, hacts⟩ := h a s (ha a List.mem_cons_self) hs
    refine ih (fun b hb => ?_) hp
    rcases List.mem_append.mp hb with hb | hb
    · exact hacts b hb
    · exact ha b (List.mem_cons_of_mem _ hb)

/-! ## How a line starts -/

/-- What each line of a job has its planes do (R95, R99, R100). -/
def startBody (k : JobKind) (pattern : Byte) : OpBody := if k = .fill then .write (BitVec.allOnes 64) (pattern.replicate 64) else .read

/-- The work of a line whose first ops are placed (R92, R95, R99, R100). -/
def startHeld (k : JobKind) (g : PlaneSet) (line : Nat) : SlotWork :=
  if k = .fill then { line := line, writesOut := g } else { line := line, tried := g, outstanding := g }

theorem planesIn_congr {s t : State} (h : t.planes = s.planes) (x : PlaneState) : planesIn t x = planesIn s x :=
  planeSet_ext _ _ fun p => by simp only [inSet_planesIn, State.plane, h]

theorem onlinePlanes_congr {s t : State} (h : t.planes = s.planes) : onlinePlanes t = onlinePlanes s :=
  planeSet_ext _ _ fun p => by simp [State.plane, h]

section
variable {z : State} {j : Job}

/-- A REBUILD line reads the lowest-numbered ONLINE plane (R95). -/
theorem startsLine_rebuild {p : PlaneId} (hk : j.kind = .rebuild) (hp : (z.plane p).state = .online)
    (hlow : ∀ q, (z.plane q).state = .online → p ≤ q) (ht : syncingTargets z j ≠ 0) (line : Nat) :
    StartsLine z j (onePlane p) .read (startHeld .rebuild (onePlane p)) line := by
  intro k u c hplanes hsuspects hjob hslot
  have hplane : ∀ q, u.plane q = z.plane q := fun q => by simp only [State.plane, hplanes]
  obtain ⟨j', hj', hk', ht'⟩ : ∃ j', ({ j with cursor := c } : Job) = j' ∧ j'.kind = .rebuild ∧ j'.targets = j.targets := ⟨_, rfl, hk, rfl⟩
  rw [hj'] at hjob
  have htargets : syncingTargets u j' ≠ 0 := by
    unfold syncingTargets at ht ⊢
    rwa [ht', planesIn_congr hplanes]
  have honline : onlinePlanes u ≠ 0 := by
    rw [onlinePlanes_congr hplanes]
    exact onlinePlanes_ne_zero hp
  unfold startSlot
  simp only [hslot, hjob, hk']
  rw [if_neg (not_or.mpr ⟨honline, htargets⟩), chooseSource_next (q := p) ⟨by rw [hplane]; exact hp, inSet_zero p⟩
    (fun v hv => hlow v (by rw [← hplane]; exact hv.1)), placeOps_onePlane, addPlane_empty]
  rfl

/-- A FILL line is written to every target (R99). -/
theorem startsLine_fill (hk : j.kind = .fill) (ht : syncingTargets z j ≠ 0) (line : Nat) :
    StartsLine z j (syncingTargets z j) (startBody .fill j.pattern) (startHeld .fill (syncingTargets z j)) line := by
  intro k u c hplanes hsuspects hjob hslot
  obtain ⟨j', hj', hk', ht', hp'⟩ : ∃ j', ({ j with cursor := c } : Job) = j' ∧ j'.kind = .fill ∧ j'.targets = j.targets ∧
      j'.pattern = j.pattern := ⟨_, rfl, hk, rfl, rfl⟩
  rw [hj'] at hjob
  have htargets : syncingTargets u j' = syncingTargets z j := by
    unfold syncingTargets
    rw [ht', planesIn_congr hplanes]
  unfold startSlot
  simp only [hslot, hjob, hk', hp']
  unfold writeTargets
  dsimp only
  rw [htargets, if_neg ht]
  rfl

/-- A VERIFY or SCRUB line that is not suspect reads every ONLINE plane (R100). -/
theorem startsLine_compare (hk : j.kind = .verify ∨ j.kind = .scrub) (ho : onlinePlanes z ≠ 0) (line : Nat)
    (hline : ∀ e ∈ z.suspects, e.line ≠ line) :
    StartsLine z j (onlinePlanes z) .read (fun line => { line := line, tried := onlinePlanes z, outstanding := onlinePlanes z }) line := by
  intro k u c hplanes hsuspects hjob hslot
  have honline := onlinePlanes_congr hplanes
  have hcompare : startCompare k { line := line } u = (placeOps { owner := .slot k, line := line, body := .read } (onlinePlanes z)
      (u.setSlot k (some { line := line, tried := onlinePlanes z, outstanding := onlinePlanes z })), []) := by
    unfold startCompare
    dsimp only
    rw [if_neg (not_isSuspect (r := { kind := .read, line := line, copied := none, work := none }) (by rw [hsuspects]; exact hline)),
      honline, if_neg ho]
  unfold startSlot
  rcases hk with hk | hk <;> simp only [hslot, hjob, hk] <;> exact hcompare

end

/-! ## What no claim changes -/

/-- A job as its claims leave it: the cursor, the lines done and the outcome may differ (R90, R92, R94, R109). -/
def Job.GoesOn (j j' : Job) : Prop := j' = { j with cursor := j'.cursor, linesDone := j'.linesDone, outcome := j'.outcome }

theorem Job.GoesOn.refl (j : Job) : j.GoesOn j := rfl

theorem Job.GoesOn.trans {a b c : Job} (h : a.GoesOn b) (k : b.GoesOn c) : a.GoesOn c := by
  unfold Job.GoesOn at *
  rw [k]
  conv => lhs; rw [h]

/-- A start at a host position writes neither the engine nor a plane record. -/
def Beside (s t : State) : Prop := t.sweep = s.sweep ∧ t.planes = s.planes

theorem Beside.refl (s : State) : Beside s s := ⟨rfl, rfl⟩

theorem Beside.trans {s t u : State} (h : Beside s t) (k : Beside t u) : Beside s u := ⟨k.1.trans h.1, k.2.trans h.2⟩

theorem beside_setRequest (t : Tag) (r : Request) (s : State) : Beside s (setRequest t r s) := by
  rcases setRequest_cases t r s with ⟨k, -, h⟩ | ⟨-, h⟩ <;> rw [h] <;> exact ⟨rfl, rfl⟩

theorem beside_produce (t : Tag) (st : Status) (d : LineData) (s : State) : Beside s (produce t st d s) := by
  rcases produce_cases t st d s with ⟨r, -, h⟩ | ⟨-, h⟩
  · rw [h]; exact ⟨rfl, rfl⟩
  · rw [h]; exact .refl s

theorem beside_placeOp (op : Op) (s : State) (p : PlaneId) : Beside s (placeOp op s p) := by
  obtain ⟨ports, out, h⟩ := placeOp_frame op s p
  rw [h]
  exact ⟨rfl, rfl⟩

theorem beside_placeOps (op : Op) (g : PlaneSet) (s : State) : Beside s (placeOps op g s) := by
  obtain ⟨ports, out, h⟩ := placeOps_frame op g s
  rw [h]
  exact ⟨rfl, rfl⟩

theorem beside_rotateTo (select : ReadSelect) (p : PlaneId) (s : State) : Beside s (rotateTo select p s) := by
  rw [rotateTo_eq]
  exact ⟨rfl, rfl⟩

theorem beside_askPlane (t : Tag) (r : Request) (x : ReadRec) (p : PlaneId) (s : State) : Beside s (askPlane t r x p s) :=
  (beside_setRequest ..).trans (beside_placeOp ..)

theorem beside_readNoPlane (t : Tag) (s : State) : Beside s (readNoPlane t s).1 := beside_produce ..

theorem beside_startRead (t : Tag) (r : Request) (x : ReadRec) (s : State) : Beside s (startRead t r x s).1 := by
  unfold startRead
  dsimp only
  split
  · exact beside_produce ..
  · split
    · exact (beside_setRequest ..).trans (beside_produce ..)
    · split
      · split
        · exact (beside_rotateTo ..).trans (beside_askPlane ..)
        · exact (beside_setRequest ..).trans (beside_readNoPlane ..)
      · exact (beside_setRequest ..).trans (beside_placeOps ..)

theorem beside_startWrite (t : Tag) (r : Request) (w : WriteRec) (s : State) : Beside s (startWrite t r w s).1 := by
  unfold startWrite
  dsimp only
  split
  · exact (beside_setRequest ..).trans (beside_produce ..)
  · split
    · exact (beside_setRequest ..).trans (beside_produce ..)
    · exact (beside_setRequest ..).trans (beside_placeOps ..)

theorem beside_startWork_host (t : Tag) (s : State) : Beside s (startWork (.host t) s).1 := by
  unfold startWork
  dsimp only
  split
  · split
    · exact beside_startWrite ..
    · exact beside_startRead ..
    · exact .refl s
  · exact .refl s

/-- A line of a VERIFY or SCRUB finishes at its grant, or has its reads placed (R100). -/
theorem startSlot_compare_cases {s : State} {j : Job} (k : SlotId) (hj : s.sweep.job = some j) (hk : j.kind = .verify ∨ j.kind = .scrub) :
    startSlot k s = (s, []) ∨ (∃ b, startSlot k s = finishLine k b s) ∨
      ∃ op g w, startSlot k s = (placeOps op g (s.setSlot k (some w)), []) := by
  have hcompare : ∀ w, (∃ b, startCompare k w s = finishLine k b s) ∨ ∃ op g w', startCompare k w s = (placeOps op g (s.setSlot k (some w')), []) := by
    intro w
    unfold startCompare
    dsimp only
    split
    · exact .inl ⟨_, rfl⟩
    · split
      · exact .inl ⟨_, rfl⟩
      · exact .inr ⟨_, _, _, rfl⟩
  unfold startSlot
  cases hw : s.slot k with
  | none => exact .inl rfl
  | some w =>
    right
    simp only [hj]
    rcases hk with hk | hk <;> rw [hk] <;> exact hcompare w

theorem finishLine_eq {s : State} {j : Job} (k : SlotId) (b : Bool) (hj : s.sweep.job = some j) :
    ∃ n, finishLine k b s = (s.setJob { j with linesDone := n }, [.release (.slot k), .sweepPlace, .sweepTest]) := by
  unfold finishLine
  cases b with
  | false =>
    refine ⟨j.linesDone, ?_⟩
    have hsame : s.setJob { j with linesDone := j.linesDone } = s := by
      unfold State.setJob
      rw [show ({ j with linesDone := j.linesDone } : Job) = j from rfl, ← hj]
    rw [hsame]
    rfl
  | true => exact ⟨j.linesDone + 1, by simp only [hj, if_true]⟩

/-- What the claims of a VERIFY or SCRUB leave: its orders, the plane records and the count of jobs. -/
structure ComparesOn (j : Job) (s t : State) : Prop where
  job : ∃ j', t.sweep.job = some j' ∧ j.GoesOn j'
  planes : t.planes = s.planes
  counter : t.sweep.jobCounter = s.sweep.jobCounter

section
variable {j : Job} {s t u : State}

theorem ComparesOn.of_eq (h : ComparesOn j s t) (hj : u.sweep.job = t.sweep.job) (hp : u.planes = t.planes)
    (hc : u.sweep.jobCounter = t.sweep.jobCounter) : ComparesOn j s u :=
  ⟨hj.symm ▸ h.job, hp.trans h.planes, hc.trans h.counter⟩

theorem ComparesOn.of_job {j' : Job} (h : ComparesOn j s t) (hj : u.sweep.job = some j') (hgo : j.GoesOn j') (hp : u.planes = t.planes)
    (hc : u.sweep.jobCounter = t.sweep.jobCounter) : ComparesOn j s u :=
  ⟨⟨j', hj, hgo⟩, hp.trans h.planes, hc.trans h.counter⟩

theorem ComparesOn.startSlot (h : ComparesOn j s t) (hk : j.kind = .verify ∨ j.kind = .scrub) (k : SlotId) :
    ComparesOn j s (startSlot k t).1 := by
  obtain ⟨j', hj', hgo⟩ := h.job
  have hk' : j'.kind = .verify ∨ j'.kind = .scrub := by rw [hgo]; exact hk
  rcases startSlot_compare_cases k hj' hk' with he | ⟨b, he⟩ | ⟨op, g, w, he⟩
  · rw [he]; exact h
  · obtain ⟨n, hn⟩ := finishLine_eq k b hj'
    rw [he, hn]
    exact h.of_job rfl (hgo.trans rfl) rfl rfl
  · obtain ⟨ports, out, hops⟩ := placeOps_frame op g (t.setSlot k (some w))
    rw [he, hops]
    exact h.of_eq rfl rfl rfl

theorem ComparesOn.completeJob (h : ComparesOn j s t) (ht : j.targets = 0) : ComparesOn j s (completeJob t) := by
  rcases completeJob_cases t with he | ⟨j', -, hj', -, -, he⟩
  · rw [he]; exact h
  obtain ⟨j'', hj'', hgo⟩ := h.job
  obtain rfl := Option.some.inj (hj'.symm.trans hj'')
  have htargets : j'.targets = 0 := by rw [hgo]; exact ht
  have hnone : planesOf (syncingTargets t j') = [] := by
    have hzero : syncingTargets t j' = 0 := by simp [syncingTargets, htargets]
    rw [hzero]
    decide
  have hend : Machine.completeJob t = storeCompletion (completionOf j' .complete) (t.setJob { j' with outcome := some .complete }) := by
    rw [he]
    unfold endJob
    rw [hnone]
    rfl
  rw [hend]
  unfold storeCompletion
  split <;> exact h.of_job rfl (hgo.trans rfl) rfl rfl

/-- No act but the delivery of an op's end changes a comparing job but in its cursor, lines done and outcome. -/
theorem ComparesOn.perform (h : ComparesOn j s t) (hk : j.kind = .verify ∨ j.kind = .scrub) (ht : j.targets = 0) {a : Act}
    (ha : ∀ op p e, a ≠ .deliver op p e) : ComparesOn j s (perform a t).1 := by
  cases a with
  | deliver op p e => exact absurd rfl (ha op p e)
  | start pos =>
    cases pos with
    | host t' => obtain ⟨hs, hp⟩ := beside_startWork_host t' t; exact h.of_eq (by rw [← hs]; rfl) hp (by rw [← hs]; rfl)
    | slot k => exact h.startSlot hk k
  | release pos => cases pos <;> exact h.of_eq rfl rfl rfl
  | place pos kind line => exact h.of_eq rfl rfl rfl
  | placeHeld t' =>
    show ComparesOn j s (placeHeldBack t' t).1
    rcases placeHeldBack_cases t' t with he | ⟨c, -, -, he⟩ <;> rw [he]
    · exact h
    · exact h.of_eq rfl rfl rfl
  | sweepPlace =>
    show ComparesOn j s (placeNext t).1
    rcases placeNext_cases t with he | ⟨j', k, -, hj', -, -, -, he⟩ <;> rw [he]
    · exact h
    · obtain ⟨j'', hj'', hgo⟩ := h.job
      obtain rfl := Option.some.inj (hj'.symm.trans hj'')
      exact h.of_job rfl (hgo.trans rfl) rfl rfl
  | sweepTest => exact h.completeJob ht

end

/-- No act but a delivery brings a delivery. -/
theorem perform_no_delivery (a : Act) (s : State) (b : Act) (hb : b ∈ (perform a s).2) (op : Op) (p : PlaneId) (e : OpEnd) :
    b ≠ .deliver op p e := by
  have hends : ∀ pos, b ∈ endActs pos → b ≠ .deliver op p e := fun pos hm => by
    cases pos <;> simp only [endActs, List.mem_cons, List.not_mem_nil, or_false] at hm
    · rw [hm]; nofun
    · rcases hm with rfl | rfl | rfl <;> nofun
  have hdoes : ∀ pos (x : Effect), Does pos s x → b ∈ x.2 → b ≠ .deliver op p e := fun pos x hx hm => by
    rcases hx.acts with h | h <;> rw [h] at hm
    · cases hm
    · exact hends pos hm
  cases a with
  | deliver op' p' e' => exact hdoes _ _ (does_deliverEnd op' p' e' s) hb
  | start pos => exact hdoes _ _ (does_startWork pos s) hb
  | release pos =>
    have hm : b ∈ (lockRelease pos s.locks).2.map Act.start ++ heldActs pos := hb
    rcases List.mem_append.mp hm with hm | hm
    · obtain ⟨c, -, rfl⟩ := List.mem_map.mp hm
      nofun
    · cases pos <;> simp only [heldActs, List.mem_singleton, List.not_mem_nil] at hm
      rw [hm]
      nofun
  | place pos kind line =>
    have hm : b ∈ if (lockPlace { pos := pos, kind := kind } line s.locks).2 then [Act.start pos] else [] := hb
    split at hm
    · rw [List.mem_singleton.mp hm]; nofun
    · cases hm
  | placeHeld t =>
    have hm : b ∈ (placeHeldBack t s).2 := hb
    rcases placeHeldBack_cases t s with he | ⟨c, -, -, he⟩ <;> rw [he] at hm
    · cases hm
    · rw [List.mem_singleton.mp hm]; nofun
  | sweepPlace =>
    have hm : b ∈ (placeNext s).2 := hb
    rcases placeNext_cases s with he | ⟨j, k, -, -, -, -, -, he⟩ <;> rw [he] at hm
    · cases hm
    · simp only [List.mem_cons, List.not_mem_nil, or_false] at hm
      rcases hm with rfl | rfl <;> nofun
  | sweepTest => exact absurd hb List.not_mem_nil

theorem comparesOn_settle {j : Job} {s : State} (hj : s.sweep.job = some j) (hk : j.kind = .verify ∨ j.kind = .scrub)
    (ht : j.targets = 0) : ComparesOn j s (settleActs [.sweepPlace] s) :=
  settleActs_within (A := fun a => ∀ op p e, a ≠ .deliver op p e) (P := ComparesOn j s)
    (fun a _ ha hu => ⟨hu.perform hk ht ha, fun b hb op p e => perform_no_delivery a _ b hb op p e⟩)
    (fun a ha op p e he => by cases (List.mem_singleton.mp ha).symm.trans he) ⟨⟨j, hj, .refl j⟩, rfl, rfl⟩

end Sys2Proof.Machine
end

section
/-! PROOFS. Where no slot holds a line, the claims of a job grant lines to slots alone, and touch no host position. -/

namespace Sys2Proof.Machine

/-! ## Entries that slots hold -/

/-- Behind a slot that holds the line none but slots wait. -/
def LockEntry.SlotsBehind (e : LockEntry) : Prop := (∃ k, .slot k ∈ e.holders) → ∀ c ∈ e.waiting, ∃ k, c.pos = .slot k

/-- An entry that grants to slots alone, or to none. -/
theorem LockEntry.advance_slots {e : LockEntry} (h : ∀ c ∈ e.waiting, ∃ k, c.pos = .slot k) :
    (∀ x ∈ e.advance.1, x.SlotsBehind) ∧ ∀ pos ∈ e.advance.2, ∃ k, pos = .slot k := by
  unfold LockEntry.advance
  split
  · split
    · exact ⟨nofun, nofun⟩
    · next c cs hw =>
      rw [hw] at h
      split
      · refine ⟨fun x hx => ?_, fun pos hpos => ?_⟩
        · cases hx
          exact fun _ d hd => h d ((List.dropWhile_suffix fun x : Claim => x.kind == .hostRead).subset hd)
        · obtain ⟨d, hd, rfl⟩ := List.mem_map.mp hpos
          exact h d ((List.takeWhile_prefix _).subset hd)
      · refine ⟨fun x hx => ?_, fun pos hpos => ?_⟩
        · cases hx
          exact fun _ d hd => h d (List.mem_cons_of_mem _ hd)
        · rw [List.mem_singleton.mp hpos]
          exact h c List.mem_cons_self
  · refine ⟨fun x hx => ?_, nofun⟩
    cases hx
    exact fun _ => h

theorem lockRelease_slots {k : SlotId} {l : List LockEntry} (h : ∀ e ∈ l, e.SlotsBehind) :
    (∀ e ∈ (lockRelease (.slot k) l).1, e.SlotsBehind) ∧ ∀ pos ∈ (lockRelease (.slot k) l).2, ∃ m, pos = .slot m := by
  induction l with
  | nil => exact ⟨nofun, nofun⟩
  | cons e es ih =>
    obtain ⟨he, hes⟩ := List.forall_mem_cons.mp h
    unfold lockRelease
    split
    · next hmem =>
      obtain ⟨hx, hpos⟩ := LockEntry.advance_slots (e := { e with holders := e.holders.erase (.slot k) })
        (he ⟨k, List.contains_iff_mem.mp hmem⟩)
      refine ⟨fun x hm => ?_, hpos⟩
      rcases List.mem_append.mp hm with hm | hm
      · exact hx x (Option.mem_toList.mp hm)
      · exact hes x hm
    · obtain ⟨hrest, hpos⟩ := ih hes
      exact ⟨List.forall_mem_cons.mpr ⟨he, hrest⟩, hpos⟩

theorem lockPlace_slots {k : SlotId} {line : Nat} {l : List LockEntry} (h : ∀ e ∈ l, e.SlotsBehind) :
    ∀ e ∈ (lockPlace { pos := .slot k, kind := .sweep } line l).1, e.SlotsBehind := by
  by_cases hfree : lockOf l line = none
  · rw [lockPlace_absent _ _ _ hfree]
    intro e he
    rcases List.mem_append.mp he with he | he
    · exact h e he
    · rw [List.mem_singleton.mp he]
      exact fun _ => nofun
  · obtain ⟨a, e, b, rfl, -, hplace⟩ := lockPlace_sweep_waits k line l (by simpa [lockOf_eq_none] using hfree)
    rw [hplace]
    intro x hx
    rcases List.mem_append.mp hx with hx | hx
    · exact h x (List.mem_append_left _ hx)
    rcases List.mem_cons.mp hx with rfl | hx
    · intro hheld c hc
      rcases List.mem_append.mp hc with hc | hc
      · exact h e (List.mem_append_right _ List.mem_cons_self) hheld c hc
      · rw [List.mem_singleton.mp hc]
        exact ⟨k, rfl⟩
    · exact h x (List.mem_append_right _ (List.mem_cons_of_mem _ hx))

/-! ## Acts of the sweep engine -/

/-- The acts that the engine brings where it grants to no host position. -/
def Act.ofSweep : Act → Prop
  | .start (.slot _) | .release (.slot _) | .place (.slot _) .sweep _ | .sweepPlace | .sweepTest => True
  | _ => False

theorem Act.ofSweep.cases {a : Act} (h : a.ofSweep) : (∃ k, a = .start (.slot k)) ∨ (∃ k, a = .release (.slot k)) ∨
    (∃ k line, a = .place (.slot k) .sweep line) ∨ a = .sweepPlace ∨ a = .sweepTest := by
  cases a with
  | deliver op p e => exact h.elim
  | placeHeld t => exact h.elim
  | start pos => cases pos with | host t => exact h.elim | slot k => exact .inl ⟨k, rfl⟩
  | release pos => cases pos with | host t => exact h.elim | slot k => exact .inr (.inl ⟨k, rfl⟩)
  | place pos kind line =>
    cases pos with
    | host t => exact h.elim
    | slot k => cases kind with | sweep => exact .inr (.inr (.inl ⟨k, line, rfl⟩)) | hostRead => exact h.elim | hostWrite => exact h.elim
  | sweepPlace => exact .inr (.inr (.inr (.inl rfl)))
  | sweepTest => exact .inr (.inr (.inr (.inr rfl)))

/-- What the engine's acts leave of a state. -/
structure SweepsOn (j : Job) (s t : State) : Prop where
  frame : t = { s with planes := t.planes, locks := t.locks, ports := t.ports, sweep := t.sweep, out := t.out }
  locks : ∀ e ∈ t.locks, e.SlotsBehind
  job : ComparesOn j s t

section
variable {j : Job} {s t u : State}

theorem SweepsOn.of_frame (h : SweepsOn j s t) (hu : u = { t with planes := u.planes, ports := u.ports, sweep := u.sweep, out := u.out })
    (hjob : ComparesOn j s u) : SweepsOn j s u := by
  refine ⟨?_, ?_, hjob⟩
  · rw [hu]
    conv => lhs; rw [h.frame]
  · rw [hu]
    exact h.locks

theorem startSlot_ofSweep (k : SlotId) (s : State) : ∀ b ∈ (startSlot k s).2, b.ofSweep := fun b hb => by
  rcases (does_startSlot k s).acts with h | h <;> rw [h] at hb
  · cases hb
  · simp only [endActs, List.mem_cons, List.not_mem_nil, or_false] at hb
    rcases hb with rfl | rfl | rfl <;> trivial

theorem SweepsOn.perform (h : SweepsOn j s t) (hk : j.kind = .verify ∨ j.kind = .scrub) (ht : j.targets = 0) {a : Act} (ha : a.ofSweep) :
    SweepsOn j s (perform a t).1 ∧ ∀ b ∈ (perform a t).2, b.ofSweep := by
  have hjob : ComparesOn j s (Machine.perform a t).1 := h.job.perform hk ht fun op p e he => by rw [he] at ha; exact ha
  rcases ha.cases with ⟨k, rfl⟩ | ⟨k, rfl⟩ | ⟨k, line, rfl⟩ | rfl | rfl
  case inl =>
    refine ⟨h.of_frame ?_ hjob, startSlot_ofSweep k t⟩
    obtain ⟨j', hj', hgo⟩ := h.job.job
    show (startSlot k t).1 = { t with planes := (startSlot k t).1.planes, ports := (startSlot k t).1.ports
                                      sweep := (startSlot k t).1.sweep, out := (startSlot k t).1.out }
    rcases startSlot_compare_cases k hj' (by rw [hgo]; exact hk) with he | ⟨b, he⟩ | ⟨op, g, w, he⟩
    · rw [he]
    · obtain ⟨n, hn⟩ := finishLine_eq k b hj'
      rw [he, hn]
      rfl
    · obtain ⟨ports, out, hops⟩ := placeOps_frame op g (t.setSlot k (some w))
      rw [he, hops]
      rfl
  case inr.inl =>
    obtain ⟨hlocks, hpos⟩ := lockRelease_slots (k := k) h.locks
    refine ⟨⟨?_, hlocks, hjob⟩, fun b hb => ?_⟩
    · conv => lhs; rw [h.frame]
      rfl
    · have hm : b ∈ (lockRelease (.slot k) t.locks).2.map Act.start ++ [] := hb
      rw [List.append_nil] at hm
      obtain ⟨pos, hmem, rfl⟩ := List.mem_map.mp hm
      obtain ⟨m, rfl⟩ := hpos pos hmem
      trivial
  case inr.inr.inl =>
    refine ⟨⟨?_, lockPlace_slots h.locks, hjob⟩, fun b hb => ?_⟩
    · conv => lhs; rw [h.frame]
      rfl
    · have hm : b ∈ if (lockPlace { pos := .slot k, kind := .sweep } line t.locks).2 then [Act.start (.slot k)] else [] := hb
      split at hm
      · rw [List.mem_singleton.mp hm]; trivial
      · cases hm
  case inr.inr.inr.inl =>
    refine ⟨h.of_frame ?_ hjob, fun b hb => ?_⟩
    · show (placeNext t).1 = { t with planes := (placeNext t).1.planes, ports := (placeNext t).1.ports
                                      sweep := (placeNext t).1.sweep, out := (placeNext t).1.out }
      rcases placeNext_cases t with he | ⟨j', k, -, -, -, -, -, he⟩
      · rw [he]
      · rw [he]
        rfl
    · have hm : b ∈ (placeNext t).2 := hb
      rcases placeNext_cases t with he | ⟨j', k, -, -, -, -, -, he⟩ <;> rw [he] at hm
      · cases hm
      · simp only [List.mem_cons, List.not_mem_nil, or_false] at hm
        rcases hm with rfl | rfl <;> trivial
  case inr.inr.inr.inr =>
    refine ⟨h.of_frame ?_ hjob, fun b hb => absurd hb List.not_mem_nil⟩
    show completeJob t = { t with planes := (completeJob t).planes, ports := (completeJob t).ports
                                  sweep := (completeJob t).sweep, out := (completeJob t).out }
    rcases completeJob_cases t with he | ⟨j', -, -, -, -, he⟩
    · rw [he]
    · obtain ⟨planes, hend⟩ := endJob_shape j' .complete t
      rw [he, hend]

theorem sweepsOn_settle (hj : s.sweep.job = some j) (hk : j.kind = .verify ∨ j.kind = .scrub) (ht : j.targets = 0)
    (hslots : ∀ m, holdsLine s (.slot m) = false) : SweepsOn j s (settleActs [.sweepPlace] s) :=
  settleActs_within (A := Act.ofSweep) (P := SweepsOn j s) (fun _ _ ha hu => hu.perform hk ht ha)
    (fun a ha => by rw [List.mem_singleton.mp ha]; trivial)
    ⟨rfl, fun e he ⟨k, hheld⟩ => absurd hheld ((not_holds_iff s _).mp (hslots k) e he), ⟨⟨j, hj, .refl j⟩, rfl, rfl⟩⟩

end

end Sys2Proof.Machine
end

section
/-! PROOFS. The statement about an accepted SWEEP_START. -/

namespace Sys2Proof.Machine

/-! ## The job begun -/

/-- The state of an accepted SWEEP_START before its first claims (R90). -/
def jobBegun (j : Job) (s : State) : State := postResult .done [j.id] (jobSet j (opened 14 s))

theorem jobBegun_eq (j : Job) (s : State) : ∃ planes out, jobBegun j s = { s with
    planes := planes, out := out, mgmt := s.mgmt.posted .done [j.id]
    sweep := { s.sweep with job := some j, jobCounter := j.id, engine := .running } } := by
  obtain ⟨planes, h⟩ := jobSet_shape j (opened 14 s)
  exact ⟨planes, _, by unfold jobBegun; rw [h]; rfl⟩

theorem jobBegun_plane (j : Job) (s : State) (p : PlaneId) : (jobBegun j s).plane p =
    if inSet j.targets p = true then { s.plane p with state := .syncing, errorCount := 0, cause := none } else s.plane p :=
  jobSet_plane j (opened 14 s) p

section
variable {s : State} {k : JobKind} {x : SweepParams}

theorem sweepRefusal_none (hw : 1 ≤ x.window) (hw' : x.window ≤ 4)
    (hrange : k.hasTargets = false → x.first ≤ x.last ∧ x.last < planeLines s)
    (htargets : k.hasTargets = true → x.targets ≠ 0 ∧ ∀ p, inSet x.targets p = true → (s.plane p).state = .offline ∧ (s.plane p).link = .up)
    (hsource : k ≠ .fill → ∃ p, (s.plane p).state = .online)
    (hfill : k = .fill → (∀ p, (s.plane p).state.inService = false) ∧ s.service = .halted) : sweepRefusal s k x = none := by
  have hsourced : sourceRefusal s k = none := by
    unfold sourceRefusal
    by_cases hk : k = .fill
    · obtain ⟨hout, hhalted⟩ := hfill hk
      rw [if_pos hk, if_neg]
      rw [anyInService_iff]
      simp [hout, hhalted]
    · obtain ⟨p, hp⟩ := hsource hk
      rw [if_neg hk, if_neg (onlinePlanes_ne_zero hp)]
  unfold sweepRefusal
  rw [if_neg (by omega), hsourced]
  cases hh : k.hasTargets with
  | true => rw [if_pos rfl, (targetRefusal_eq_none s x.targets).mpr (htargets hh)]; rfl
  | false => rw [if_neg Bool.false_ne_true, if_neg (by have := hrange hh; omega)]

theorem sweepStartBody_accepted (hidle : s.sweep.engine = .idle) (hk : x.kind = some k) (h : sweepRefusal s k x = none) :
    sweepStartBody x (opened 14 s) = settleActs [.sweepPlace] (jobBegun (newJob s k x) s) := by
  unfold sweepStartBody
  rw [if_neg (not_not_intro (show (opened 14 s).sweep.engine = .idle from hidle)), hk]
  dsimp only
  rw [show sweepRefusal (opened 14 s) k x = none from h]
  rfl

end

/-! ## Its first claims -/

section
variable {s : State} {j : Job}

/-- The planes that the first ops of a job's lines go to. -/
structure FirstPlanes (j : Job) (s : State) (g : PlaneSet) : Prop where
  rebuild : j.kind = .rebuild → ∀ q, inSet g q = true ↔ (s.plane q).state = .online ∧ ∀ v, (s.plane v).state = .online → q ≤ v
  fill : j.kind = .fill → ∀ q, inSet g q = true ↔ inSet j.targets q = true
  compare : j.kind = .verify ∨ j.kind = .scrub → ∀ q, inSet g q = true ↔ (s.plane q).state = .online

theorem jobBegun_online (hoff : ∀ p, inSet j.targets p = true → (s.plane p).state = .offline) (q : PlaneId) :
    ((jobBegun j s).plane q).state = .online ↔ (s.plane q).state = .online := by
  rw [jobBegun_plane]
  split
  · next h => simp [hoff q h]
  · exact Iff.rfl

theorem inSet_syncingTargets_jobBegun (q : PlaneId) : inSet (syncingTargets (jobBegun j s) j) q = true ↔ inSet j.targets q = true := by
  rw [inSet_syncingTargets, jobBegun_plane]
  exact ⟨And.left, fun h => ⟨h, by rw [if_pos h]⟩⟩

theorem syncingTargets_jobBegun_ne_zero {p : PlaneId} (h : inSet j.targets p = true) : syncingTargets (jobBegun j s) j ≠ 0 := fun h0 => by
  have hp := inSet_syncingTargets_jobBegun (s := s) p |>.mpr h
  rw [h0] at hp
  cases hp.symm.trans (inSet_zero p)

/-- Each of the first lines starts with ops on the same planes, if no line of a VERIFY or SCRUB is suspect (R93, R95, R99, R100). -/
theorem startsLines (hoff : ∀ p, inSet j.targets p = true → (s.plane p).state = .offline)
    (htargets : j.kind = .rebuild ∨ j.kind = .fill → ∃ p, inSet j.targets p = true)
    (hsource : j.kind ≠ .fill → ∃ p, (s.plane p).state = .online) :
    ∃ g, FirstPlanes j s g ∧ ∀ line, (j.kind = .verify ∨ j.kind = .scrub → ∀ e ∈ s.suspects, e.line ≠ line) →
      StartsLine (jobBegun j s) j g (startBody j.kind j.pattern) (startHeld j.kind g) line := by
  have honline := jobBegun_online (s := s) hoff
  have hsuspects : (jobBegun j s).suspects = s.suspects := by
    obtain ⟨planes, out, he⟩ := jobBegun_eq j s
    rw [he]
  have hcompares : ∀ k, (j.kind = k) → (k = .verify ∨ k = .scrub) → ∃ g, FirstPlanes j s g ∧ ∀ line,
      (j.kind = .verify ∨ j.kind = .scrub → ∀ e ∈ s.suspects, e.line ≠ line) →
        StartsLine (jobBegun j s) j g (startBody j.kind j.pattern) (startHeld j.kind g) line := by
    intro k hk hkk
    have hne : j.kind ≠ .fill := by rw [hk]; rintro rfl; rcases hkk with h | h <;> cases h
    have hnr : j.kind ≠ .rebuild := by rw [hk]; rintro rfl; rcases hkk with h | h <;> cases h
    obtain ⟨p, hp⟩ := hsource hne
    refine ⟨onlinePlanes (jobBegun j s), ⟨fun h => absurd h hnr, fun h => absurd h hne, fun _ q => ?_⟩, fun line hline => ?_⟩
    · rw [← honline]
      simp
    · have hstart := startsLine_compare (z := jobBegun j s) (hk ▸ hkk) (onlinePlanes_ne_zero ((honline p).mpr hp)) line
        (by rw [hsuspects]; exact hline (hk ▸ hkk))
      unfold startBody startHeld
      simpa only [hne, if_false] using hstart
  cases hk : j.kind with
  | verify => exact hk ▸ hcompares _ hk (.inl rfl)
  | scrub => exact hk ▸ hcompares _ hk (.inr rfl)
  | rebuild =>
    obtain ⟨t, ht⟩ := htargets (.inl hk)
    obtain ⟨v, hv⟩ := hsource (by simp [hk])
    obtain ⟨p, hp⟩ : ∃ p, lowestPlane (onlinePlanes (jobBegun j s)) = some p :=
      Option.ne_none_iff_exists'.mp fun h => onlinePlanes_ne_zero ((honline v).mpr hv) ((lowestPlane_eq_none _).mp h)
    obtain ⟨hmem, hlow⟩ := (lowestPlane_eq_some _ _).mp hp
    have hpon : ((jobBegun j s).plane p).state = .online := by simpa using hmem
    have hleast : ∀ q, ((jobBegun j s).plane q).state = .online → p ≤ q := fun q hq => by
      by_contra hlt
      have := hlow q (not_le.mp hlt)
      simp [hq] at this
    refine ⟨onePlane p, ⟨fun _ q => ?_, fun h => absurd (hk.symm.trans h) (by simp), fun h => ?_⟩, fun line _ => ?_⟩
    · rw [inSet_onePlane]
      constructor
      · intro h
        obtain rfl : q = p := by simpa using h
        exact ⟨(honline q).mp hpon, fun v hv => hleast v ((honline v).mpr hv)⟩
      · rintro ⟨hq, hqlow⟩
        simpa using le_antisymm (hqlow p ((honline p).mp hpon)) (hleast q ((honline q).mpr hq))
    · rcases h with h | h <;> cases hk.symm.trans h
    · exact startsLine_rebuild hk hpon hleast (syncingTargets_jobBegun_ne_zero ht) line
  | fill =>
    obtain ⟨t, ht⟩ := htargets (.inr hk)
    refine ⟨syncingTargets (jobBegun j s) j, ⟨fun h => absurd (hk.symm.trans h) (by simp), fun _ q => inSet_syncingTargets_jobBegun q, fun h => ?_⟩,
      fun line _ => startsLine_fill hk (syncingTargets_jobBegun_ne_zero ht) line⟩
    rcases h with h | h <;> cases hk.symm.trans h

/-- The engine claims the first lines of a job, none of them suspect where it is a VERIFY or SCRUB (R92). -/
theorem claimed_settle (hslots : ∀ m, s.slot m = none) (hw : j.window ≤ 4)
    (hoff : ∀ p, inSet j.targets p = true → (s.plane p).state = .offline)
    (htargets : j.kind = .rebuild ∨ j.kind = .fill → ∃ p, inSet j.targets p = true)
    (hsource : j.kind ≠ .fill → ∃ p, (s.plane p).state = .online)
    (hsuspects : j.kind = .verify ∨ j.kind = .scrub →
      ∀ e ∈ s.suspects, e.line < j.cursor ∨ j.cursor + min j.window (j.last + 1 - j.cursor) ≤ e.line) :
    ∃ g granted, FirstPlanes j s g ∧ Claimed (jobBegun j s) j g (startBody j.kind j.pattern) (startHeld j.kind g)
      (min j.window (j.last + 1 - j.cursor)) granted (settleActs [.sweepPlace] (jobBegun j s)) := by
  obtain ⟨g, hg, hstart⟩ := startsLines hoff htargets hsource
  obtain ⟨planes, out, he⟩ := jobBegun_eq j s
  have hjob : (jobBegun j s).sweep.job = some j := by rw [he]
  have hengine : (jobBegun j s).sweep.engine = .running := by rw [he]
  have hfree : ∀ m, (jobBegun j s).slot m = none := fun m => by rw [he]; exact hslots m
  obtain ⟨granted, hclaimed⟩ := settleActs_firstClaims (g := g) (body := startBody j.kind j.pattern) (held := startHeld j.kind g) hjob hengine
    hfree hw fun n hn => hstart _ fun hk e hmem => by have := hsuspects hk e hmem; omega
  exact ⟨g, granted, hg, hclaimed⟩

/-- What the first claims keep of the job's orders, the plane records and the management port, suspect lines or not. -/
theorem settle_jobBegun_keeps (hclaims : j.kind = .rebuild ∨ j.kind = .fill →
      ∃ g body held n granted, Claimed (jobBegun j s) j g body held n granted (settleActs [.sweepPlace] (jobBegun j s)))
    (hcompare : j.kind = .verify ∨ j.kind = .scrub → j.targets = 0) :
    ComparesOn j (jobBegun j s) (settleActs [.sweepPlace] (jobBegun j s)) ∧
      (settleActs [.sweepPlace] (jobBegun j s)).mgmt = s.mgmt.posted .done [j.id] := by
  obtain ⟨planes, out, he⟩ := jobBegun_eq j s
  have hjob : (jobBegun j s).sweep.job = some j := by rw [he]
  refine ⟨?_, ?_⟩
  · have hkind : (j.kind = .rebuild ∨ j.kind = .fill) ∨ j.kind = .verify ∨ j.kind = .scrub := by cases j.kind <;> simp
    rcases hkind with hk | hk
    · obtain ⟨g, body, held, n, granted, h⟩ := hclaims hk
      rw [h.frame]
      exact ⟨⟨_, rfl, rfl⟩, rfl, rfl⟩
    · exact comparesOn_settle hjob hk (hcompare hk)
  · have hinner : (settleActs [.sweepPlace] (jobBegun j s)).mgmt = (jobBegun j s).mgmt := by
      rw [inner_settleActs [.sweepPlace] (jobBegun j s)]
    rw [hinner, he]

/-- Where no slot holds a line, the first claims leave the host's side of the part and its policies, tables and registers (R92). -/
theorem settle_jobBegun_frame (hclaims : j.kind = .rebuild ∨ j.kind = .fill →
      ∃ g body held n granted, Claimed (jobBegun j s) j g body held n granted (settleActs [.sweepPlace] (jobBegun j s)))
    (hcompare : j.kind = .verify ∨ j.kind = .scrub → j.targets = 0) (hslots : ∀ m, holdsLine s (.slot m) = false) {t : State}
    (ht : settleActs [.sweepPlace] (jobBegun j s) = t) :
    t = { s with planes := t.planes, locks := t.locks, ports := t.ports, sweep := t.sweep, mgmt := t.mgmt, out := t.out } := by
  obtain ⟨planes, out, he⟩ := jobBegun_eq j s
  have hjob : (jobBegun j s).sweep.job = some j := by rw [he]
  have hheld : ∀ m, holdsLine (jobBegun j s) (.slot m) = false := fun m => by rw [he]; exact hslots m
  have hbegun : t = { jobBegun j s with planes := t.planes, locks := t.locks, ports := t.ports, sweep := t.sweep, out := t.out } := by
    have hkind : (j.kind = .rebuild ∨ j.kind = .fill) ∨ j.kind = .verify ∨ j.kind = .scrub := by cases j.kind <;> simp
    rcases hkind with hk | hk
    · obtain ⟨g, body, held, n, granted, h⟩ := hclaims hk
      rw [← ht, h.frame]
    · rw [← ht]
      exact (sweepsOn_settle hjob hk (hcompare hk) hheld).frame
  rw [hbegun, he]

end

/-- A job as R90 sets it. -/
theorem newJob_orders (kind : Byte) (first last : LineWord) (targets window pattern : Byte) (s : State) (k : JobKind) (j : Job)
    (hj : newJob s k (sweepParams kind first last targets window pattern) = j) :
    j.id = s.sweep.jobCounter + 1 ∧ j.kind = k ∧ j.window = window.toNat ∧ j.cursor = j.first ∧
      (k = .verify ∨ k = .scrub → j.first = first.toNat ∧ j.last = last.toNat ∧ j.targets = 0 ∧ j.pattern = 0) ∧
      (k = .rebuild ∨ k = .fill → j.first = 0 ∧ j.last = planeLines s - 1 ∧ j.targets = targets.setWidth 4 ∧
        j.pattern = if k = .fill then pattern else 0) ∧
      j.linesDone = 0 ∧ j.mismatches = 0 ∧ j.errors = 0 ∧ j.outcome = none := by
  rw [← hj]
  refine ⟨rfl, rfl, rfl, rfl, fun hk => ?_, fun hk => ?_, rfl, rfl, rfl, rfl⟩
  · rcases hk with rfl | rfl <;> exact ⟨rfl, rfl, rfl, rfl⟩
  · rcases hk with rfl | rfl <;> exact ⟨rfl, rfl, rfl, rfl⟩

/-- A SWEEP_START that passes the checks of R89 begins its job, and the engine claims its first lines (R90). -/
theorem exec_sweepStart_accepted {s : State} {k : JobKind} (kind : Byte) (first last : LineWord) (targets window pattern : Byte)
    (hready : CommandReady s) (hidle : s.sweep.engine = .idle) (hkind : kind = k.code) (hw1 : 1 ≤ window.toNat) (hw4 : window.toNat ≤ 4)
    (hrange : k = .verify ∨ k = .scrub → first.toNat ≤ last.toNat ∧ last.toNat < planeLines s)
    (htargets : k = .rebuild ∨ k = .fill → (∃ p : PlaneId, targets.getLsbD p.val = true) ∧
      ∀ p : PlaneId, targets.getLsbD p.val = true → (s.plane p).state = .offline ∧ (s.plane p).link = .up)
    (hsource : k ≠ .fill → ∃ p, (s.plane p).state = .online)
    (hfill : k = .fill → (∀ p, (s.plane p).state.inService = false) ∧ s.service = .halted) :
    exec (.sweepStart (sweepStartBytes kind first last targets window pattern)) s =
      .next (settleActs [.sweepPlace] (jobBegun (newJob s k (sweepParams kind first last targets window pattern)) s)) := by
  have hk : jobKind? kind = some k := by rw [hkind]; cases k <;> rfl
  have hcopies : k.hasTargets = true → k = .rebuild ∨ k = .fill := by cases k <;> simp [JobKind.hasTargets]
  have hcompares : k.hasTargets = false → k = .verify ∨ k = .scrub := by cases k <;> simp [JobKind.hasTargets]
  have hrefusal : sweepRefusal s k (sweepParams kind first last targets window pattern) = none := by
    refine sweepRefusal_none hw1 hw4 (fun h => hrange (hcompares h)) (fun h => ?_) hsource hfill
    obtain ⟨⟨p, hp⟩, hall⟩ := htargets (hcopies h)
    refine ⟨fun h0 => ?_, fun q hq => hall q (by rw [← inSet_planesOfByte]; exact hq)⟩
    have hmem : inSet (planesOfByte targets) p = true := (inSet_planesOfByte targets p).trans hp
    rw [show planesOfByte targets = 0 from h0] at hmem
    cases hmem.symm.trans (inSet_zero p)
  rw [exec_sweepStart_ready kind first last targets window pattern s hready, sweepStartBody_accepted hidle hk hrefusal]

/-- Settles O34: the job is set up, then the engine claims line after line up to its window; with no suspect line among them each line is
granted, its ops placed, or waits. -/
theorem sweepStartAccepted : Obligations.SweepStartAccepted := by
  intro kind k first last targets window pattern s hready hsound hidle hkind hw1 hw4 hrange htargets hsource hfill
  have hexec := exec_sweepStart_accepted kind first last targets window pattern hready hidle hkind hw1 hw4 hrange htargets hsource hfill
  generalize hj : newJob s k (sweepParams kind first last targets window pattern) = j at hexec
  obtain ⟨hid, hjk, hwindow, hcursor, horders, hcopy, hdone, hmis, herr, hout⟩ := newJob_orders _ _ _ _ _ _ _ _ _ hj
  subst hjk
  have hbits : j.kind = .rebuild ∨ j.kind = .fill → ∀ p, inSet j.targets p = targets.getLsbD p.val := fun h p => by
    rw [(hcopy h).2.2.1]
    exact inSet_planesOfByte targets p
  have hnone : j.kind = .verify ∨ j.kind = .scrub → j.targets = 0 := fun h => (horders h).2.2.1
  have hkinds : (j.kind = .rebuild ∨ j.kind = .fill) ∨ j.kind = .verify ∨ j.kind = .scrub := by cases j.kind <;> simp
  have hoff : ∀ p, inSet j.targets p = true → (s.plane p).state = .offline := fun p hp => by
    rcases hkinds with h | h
    · exact ((htargets h).2 p (by rw [← hbits h]; exact hp)).1
    · rw [hnone h] at hp
      cases hp.symm.trans (inSet_zero p)
  have hslots : ∀ m, s.slot m = none := by
    obtain ⟨-, -, hslots, -⟩ := hsound
    exact hslots (.inl hidle)
  have hsettle := claimed_settle (j := j) hslots (by omega) hoff
    (fun h => let ⟨⟨p, hp⟩, _⟩ := htargets h; ⟨p, by rw [hbits h]; exact hp⟩) hsource
  have hclaims : j.kind = .rebuild ∨ j.kind = .fill →
      ∃ g body held n granted, Claimed (jobBegun j s) j g body held n granted (settleActs [.sweepPlace] (jobBegun j s)) := fun h => by
    obtain ⟨g, granted, -, hclaimed⟩ := hsettle fun h' => by rcases h with h | h <;> rw [h] at h' <;> simp at h'
    exact ⟨g, _, _, _, granted, hclaimed⟩
  obtain ⟨⟨⟨j', hjob, hgo⟩, hplanes, hcounter⟩, hmgmt⟩ := settle_jobBegun_keeps hclaims hnone
  obtain ⟨planes, out, he⟩ := jobBegun_eq j s
  have hframe := settle_jobBegun_frame hclaims hnone
  generalize settleActs [.sweepPlace] (jobBegun j s) = t at hexec hsettle hclaims hjob hplanes hcounter hmgmt hframe
  refine ⟨t, hexec, by rw [hmgmt, hid], by rw [hcounter, he, ← hid], j', hjob, by rw [hgo]; exact hid, by rw [hgo], by rw [hgo]; exact hwindow,
    fun h => by rw [hgo]; exact horders h, fun h => ?targets, fun h => ?compare, by rw [hgo]; exact hmis, by rw [hgo]; exact herr, ?claims,
    fun hheld => hframe hheld rfl⟩
  case targets =>
    obtain ⟨hfirst, hlast, ht, hpattern⟩ := hcopy h
    refine ⟨by rw [hgo]; exact hfirst, by rw [hgo]; exact hlast, by rw [hgo]; exact ht, by rw [hgo]; exact hpattern, fun p => ?_⟩
    have hplane : t.plane p = (jobBegun j s).plane p := by simp only [State.plane, hplanes]
    rw [hplane, jobBegun_plane, hbits h]
  case compare =>
    rw [hplanes]
    unfold jobBegun jobSet
    rw [hnone h]
    rfl
  case claims =>
    intro claims hline
    have hfl : j'.first = j.first ∧ j'.last = j.last := by rw [hgo]; exact ⟨rfl, rfl⟩
    have hn : claims = min j.window (j.last + 1 - j.cursor) := by
      simp only [claims, hfl.1, hfl.2, hcursor, hwindow]
    obtain ⟨g, granted, hg, h⟩ := hsettle fun hk' e hmem => by
      rw [← hn, hcursor, ← hfl.1]
      exact hline hk' e hmem
    rw [← hn] at h
    have hsweep : t.sweep = { (jobBegun j s).sweep with slots := t.sweep.slots, job := some { j with cursor := j.cursor + claims } } := by
      rw [h.frame]
    have hj' : j' = { j with cursor := j.cursor + claims } := by
      rw [hsweep] at hjob
      exact (Option.some.inj hjob).symm
    have hstart : j'.first = j.cursor := hfl.1.trans hcursor.symm
    have hlocks : (jobBegun j s).locks = s.locks := by rw [he]
    have hports : ∀ q, (jobBegun j s).port q = s.port q := fun q => by rw [he]; rfl
    have hwaiting : s.sweep.waiting = none := by
      obtain ⟨-, -, -, -, hiff, -⟩ := hsound
      cases hw : s.sweep.waiting with
      | none => rfl
      | some c => rw [hidle, hw] at hiff; cases hiff.mp rfl
    refine ⟨by rw [hsweep, he], by rw [hsweep, he]; exact hwaiting, by rw [hsweep, he], by rw [hstart, hj'], by rw [hj']; exact hdone,
      by rw [hj']; exact hout, g, granted, h.nodup, fun m => ?_, hg.rebuild, fun hf q => ?_, hg.compare, fun m => ⟨fun hm => ?_, fun hm => ?_, fun hm hgm => ?_⟩,
      fun q => ?_⟩
    · rw [hstart, h.mem, hlocks]
    · rw [hg.fill hf, hbits (.inr hf)]
    · rw [h.slot, if_pos hm]
    · obtain ⟨hlt, -⟩ := (h.mem m).mp hm
      rw [hstart]
      refine ⟨?_, h.holds m hm⟩
      rw [h.slot, if_neg (by omega), if_pos hm]
      rfl
    · rw [hstart]
      exact ⟨by rw [h.slot, if_neg (by omega), if_neg hgm], h.waits m hm hgm⟩
    · have hq := h.port q
      rw [hports] at hq
      have hbody : startBody j.kind j.pattern =
          if j.kind = .fill then .write (BitVec.allOnes 64) (pattern.replicate 64) else .read := by
        unfold startBody
        split
        · next hf => rw [(hcopy (.inr hf)).2.2.2, if_pos hf]
        · rfl
      refine ⟨?_, hq.host, hq.queue⟩
      have hops := hq.ops
      unfold lineOp at hops
      rw [hbody] at hops
      rw [hstart]
      exact hops

end Sys2Proof.Machine
end

section
/-! PROOFS. The acts of the sweep engine where none but slots wait for a line: what they leave of the host's side, the ports, and the log. -/

namespace Sys2Proof.Machine

/-! ## One port -/

/-- A port without host-side ops takes sweep ops, and an arbiter may issue them: none overtakes (R134, R146, R147). -/
def Port.Sweeps (q q' : Port) : Prop :=
  q.hostList = [] → q'.hostList = [] ∧ q'.gen = q.gen ∧ ∃ more new, q'.queue = q.queue ++ more ∧
    q'.nextSlot = q.nextSlot + BitVec.ofNat 4 more.length ∧ q.sweepList ++ new = more.map QueuedOp.op ++ q'.sweepList

theorem Port.Sweeps.refl (q : Port) : Port.Sweeps q q := fun h => ⟨h, rfl, [], [], by simp⟩

theorem Port.Sweeps.trans {a b c : Port} (h : Port.Sweeps a b) (k : Port.Sweeps b c) : Port.Sweeps a c := fun ha => by
  obtain ⟨hb, hgen, more, new, hqueue, hslot, hlist⟩ := h ha
  obtain ⟨hc, hgen', more', new', hqueue', hslot', hlist'⟩ := k hb
  refine ⟨hc, hgen'.trans hgen, more ++ more', new ++ new', ?_, ?_, ?_⟩
  · rw [hqueue', hqueue, List.append_assoc]
  · rw [hslot', hslot, List.length_append, BitVec.ofNat_add, BitVec.add_assoc]
  · rw [← List.append_assoc, hlist, List.append_assoc, hlist', List.map_append, List.append_assoc]

theorem Port.Sweeps.enlist {op : Op} {k : SlotId} (h : op.owner = .slot k) (q : Port) : Port.Sweeps q (q.enlist op) := fun hq => by
  unfold Port.enlist
  rw [h]
  exact ⟨hq, rfl, [], [op], by simp⟩

theorem Port.Sweeps.grantOne {share now : Nat} {q q' : Port} (h : q.grantOne share now = some q') : Port.Sweeps q q' := fun hq => by
  obtain ⟨-, op, n, hlists, he⟩ := grantOne_cases share now q q' h
  rcases hlists with ⟨hh, -⟩ | ⟨hs, hh⟩
  · rw [hq] at hh; cases hh
  · rw [he]
    exact ⟨hh.trans hq, rfl, [{ op := op, slot := q.nextSlot, gen := q.gen, issuedAt := now }], [], rfl, rfl, by simp [hs]⟩

/-! ## What the engine's blocks write -/

/-- What the engine's work on a line writes: neither the lock table nor the host's side. -/
structure SlotGoes (s t : State) : Prop where
  frame : t = { s with ports := t.ports, sweep := t.sweep, log := t.log, suspects := t.suspects, sticky := t.sticky, out := t.out }
  port : ∀ p, Port.Sweeps (s.port p) (t.port p)

section
variable {s t u : State}

theorem SlotGoes.trans (h : SlotGoes s t) (k : SlotGoes t u) : SlotGoes s u := by
  refine ⟨?_, fun p => (h.port p).trans (k.port p)⟩
  conv => lhs; rw [k.frame]
  conv => lhs; rw [h.frame]

theorem SlotGoes.of_ports (ht : t = { s with sweep := t.sweep, log := t.log, suspects := t.suspects, sticky := t.sticky }) : SlotGoes s t := by
  refine ⟨?_, fun p => ?_⟩
  · conv => lhs; rw [ht]
    rw [ht]
  · rw [ht]
    exact .refl _

theorem SlotGoes.refl (s : State) : SlotGoes s s := .of_ports rfl

theorem slotGoes_arbitrate (p : PlaneId) (s : State) : SlotGoes s (arbitrate p s) := by
  refine arbitrate_keeps (SlotGoes s) p (fun t u ht hg => ht.trans ?_) s (.refl s)
  obtain ⟨-, q, ops, hq, rfl⟩ := grantOp_cases p t _ hg
  refine ⟨rfl, fun r => ?_⟩
  show Port.Sweeps (t.port r) ((t.setPort p q).port r)
  rw [State.setPort_port]
  split
  · next h => rw [h]; exact .grantOne hq
  · exact .refl _

theorem slotGoes_placeOp {op : Op} {k : SlotId} (h : op.owner = .slot k) (s : State) (p : PlaneId) : SlotGoes s (placeOp op s p) := by
  rw [placeOp_eq]
  refine SlotGoes.trans ⟨rfl, fun r => ?_⟩ (slotGoes_arbitrate p _)
  rw [State.setPort_port]
  split
  · next hr => rw [hr]; exact .enlist h _
  · exact .refl _

theorem slotGoes_placeOps {op : Op} {k : SlotId} (h : op.owner = .slot k) (g : PlaneSet) (s : State) : SlotGoes s (placeOps op g s) :=
  placeOps_keeps (SlotGoes s) op (fun _ p ht => ht.trans (slotGoes_placeOp h _ p)) g s (.refl s)

theorem setSlot_self {k : SlotId} {x : Option SlotWork} (h : s.slot k = x) : s.setSlot k x = s := by
  have hslots : s.sweep.slots.set k x = s.sweep.slots := by
    rw [← h]
    exact Vector.set_getElem_self _
  unfold State.setSlot
  rw [hslots]

theorem finishLine_shape (k : SlotId) (b : Bool) (s : State) : ∃ job,
    finishLine k b s = ({ s with sweep := { s.sweep with job := job } }, [.release (.slot k), .sweepPlace, .sweepTest]) := by
  unfold finishLine
  cases b with
  | false => exact ⟨s.sweep.job, rfl⟩
  | true =>
    cases hj : s.sweep.job with
    | none => exact ⟨none, by simp [← hj]⟩
    | some j => exact ⟨some { j with linesDone := j.linesDone + 1 }, by simp [State.setJob]⟩

/-- How a granted line starts: it finishes, or its first ops are placed, or it is a REBUILD line that erred and has no source left (R93, R95,
R98 to R100). -/
inductive SlotStarts (k : SlotId) (s : State) (w : SlotWork) : Prop
  | finishes (b : Bool) (w' : SlotWork) (he : w'.erred = w.erred) (h : startSlot k s = finishLine k b (s.setSlot k (some w')))
  | places (op : Op) (g : PlaneSet) (w' : SlotWork) (ho : op.owner = .slot k) (he : w'.erred = w.erred)
      (h : startSlot k s = (placeOps op g (s.setSlot k (some w')), []))
  | distrusted (j : Job) (hne : w.erred ≠ 0) (h : startSlot k s = noGoodSource k w j s)

theorem startSlot_cases (k : SlotId) (s : State) : startSlot k s = (s, []) ∨ ∃ w, s.slot k = some w ∧ SlotStarts k s w := by
  cases hw : s.slot k with
  | none => left; unfold startSlot; rw [hw]
  | some w =>
    cases hj : s.sweep.job with
    | none => left; unfold startSlot; rw [hw, hj]
    | some j =>
      refine .inr ⟨w, rfl, ?_⟩
      have hself : s.setSlot k (some w) = s := setSlot_self hw
      have hcompare : startSlot k s = startCompare k w s → SlotStarts k s w := fun h => by
        unfold startCompare at h
        dsimp only at h
        split at h
        · exact .finishes true w rfl (by rw [hself]; exact h)
        · split at h
          · exact .finishes false w rfl (by rw [hself]; exact h)
          · exact .places _ _ { w with tried := onlinePlanes s, outstanding := onlinePlanes s } rfl rfl h
      cases hk : j.kind with
      | verify => exact hcompare (by unfold startSlot; simp only [hw, hj, hk])
      | scrub => exact hcompare (by unfold startSlot; simp only [hw, hj, hk])
      | fill =>
        have h : startSlot k s = writeTargets k w j (j.pattern.replicate 64) s := by unfold startSlot; simp only [hw, hj, hk]
        unfold writeTargets at h
        dsimp only at h
        split at h
        · exact .finishes false w rfl h
        · exact .places _ _ { w with writesOut := syncingTargets s j } rfl rfl h
      | rebuild =>
        have h : startSlot k s = if onlinePlanes s = 0 ∨ syncingTargets s j = 0 then finishLine k false s else chooseSource k w j s := by
          unfold startSlot
          simp only [hw, hj, hk]
        split at h
        · exact .finishes false w rfl (by rw [hself]; exact h)
        · unfold chooseSource at h
          split at h
          · next p _ =>
            exact .places _ (onePlane p) { w with tried := addPlane w.tried p, outstanding := onePlane p } rfl rfl
              (by rw [placeOps_onePlane]; exact h)
          · split at h
            · exact .finishes false w rfl h
            · next hne => exact .distrusted j hne h

theorem slotGoes_finishLine (k : SlotId) (b : Bool) (s : State) : SlotGoes s (finishLine k b s).1 := by
  obtain ⟨job, h⟩ := finishLine_shape k b s
  rw [h]
  exact .of_ports rfl

theorem slotGoes_noGoodSource (k : SlotId) (w : SlotWork) (j : Job) (s : State) : SlotGoes s (noGoodSource k w j s).1 := by
  have hadd : ∀ e, SlotGoes (s.setSlot k (some w)) (addSuspect e (s.setSlot k (some w))).1 := fun e => by
    rcases addSuspect_cases e (s.setSlot k (some w)) with ⟨l, -, h⟩ | ⟨-, h⟩ <;> rw [h] <;> exact .of_ports rfl
  have hpost : ∀ b v, SlotGoes v (postRecord b v) := fun b v => by rw [postRecord_frame]; exact .of_ports rfl
  have habort : ∀ v, SlotGoes v (enterAborting .abortedSuspectFull v) := fun v => by
    rcases enterAborting_cases .abortedSuspectFull v with h | ⟨-, ⟨j, -, h⟩ | ⟨-, h⟩⟩ <;> rw [h] <;> exact .of_ports rfl
  have hslot : SlotGoes s (s.setSlot k (some w)) := .of_ports rfl
  unfold noGoodSource
  dsimp only
  split
  · exact (hslot.trans ((hadd _).trans (hpost _ _))).trans (slotGoes_finishLine ..)
  · exact ((hslot.trans ((hadd _).trans (hpost _ _))).trans (habort _)).trans (slotGoes_finishLine ..)

theorem slotGoes_startSlot (k : SlotId) (s : State) : SlotGoes s (startSlot k s).1 := by
  have hslot : ∀ w, SlotGoes s (s.setSlot k (some w)) := fun w => .of_ports rfl
  rcases startSlot_cases k s with h | ⟨w, hw, h⟩
  · rw [h]; exact .refl s
  · cases h with
    | finishes b w' he h => rw [h]; exact (hslot w').trans (slotGoes_finishLine ..)
    | places op g w' ho he h => rw [h]; exact (hslot w').trans (slotGoes_placeOps ho ..)
    | distrusted j hne h => rw [h]; exact slotGoes_noGoodSource ..

end

/-! ## The lock table -/

/-- None but slots wait. -/
def SlotsWait (l : List LockEntry) : Prop := ∀ e ∈ l, ∀ c ∈ e.waiting, c.isSweep = true

/-- The table has the claimant among the holders of a line. -/
def heldIn (l : List LockEntry) (pos : Claimant) : Bool := l.any fun e => e.holders.contains pos

theorem holdsLine_eq (s : State) (pos : Claimant) : holdsLine s pos = heldIn s.locks pos := rfl

theorem Claim.isSweep_iff (c : Claim) : c.isSweep = true ↔ ∃ k, c.pos = .slot k := by
  unfold Claim.isSweep
  cases c.pos <;> simp

/-- An entry that grants, behind which none but slots wait: it goes on so, and the host positions that hold it go on holding it. -/
theorem LockEntry.advance_slotsWait {e : LockEntry} (h : ∀ c ∈ e.waiting, c.isSweep = true) :
    (∀ x ∈ e.advance.1, ∀ c ∈ x.waiting, c ∈ e.waiting) ∧ (∀ pos ∈ e.advance.2, ∃ c ∈ e.waiting, c.pos = pos) ∧
      ∀ t, heldIn e.advance.1.toList (.host t) = e.holders.contains (.host t) := by
  have hnohost : ∀ l : List Claim, (∀ c ∈ l, c.isSweep = true) → ∀ t, (l.map Claim.pos).contains (.host t) = false := fun l hl t => by
    rw [Bool.eq_false_iff, ne_eq, List.contains_iff_mem]
    intro hm
    obtain ⟨c, hc, hpos⟩ := List.mem_map.mp hm
    obtain ⟨k, hk⟩ := c.isSweep_iff.mp (hl c hc)
    rw [hk] at hpos
    cases hpos
  unfold LockEntry.advance
  split
  · next hempty =>
    rw [List.isEmpty_iff.mp hempty]
    split
    · exact ⟨nofun, nofun, fun t => rfl⟩
    · next c cs hw =>
      rw [hw] at h ⊢
      have hrun : ∀ d ∈ (c :: cs).takeWhile fun x : Claim => x.kind == .hostRead, d ∈ c :: cs := fun d hd =>
        (List.takeWhile_prefix _).subset hd
      split
      · refine ⟨fun x hx d hd => ?_, fun pos hpos => ?_, fun t => ?_⟩
        · cases hx
          exact (List.dropWhile_suffix fun x : Claim => x.kind == .hostRead).subset hd
        · obtain ⟨d, hd, rfl⟩ := List.mem_map.mp hpos
          exact ⟨d, hrun d hd, rfl⟩
        · simp only [heldIn, Option.toList_some, List.any_cons, List.any_nil, Bool.or_false]
          exact hnohost _ (fun d hd => h d (hrun d hd)) t
      · refine ⟨fun x hx d hd => ?_, fun pos hpos => ?_, fun t => ?_⟩
        · cases hx
          exact List.mem_cons_of_mem _ hd
        · rw [List.mem_singleton.mp hpos]
          exact ⟨c, List.mem_cons_self, rfl⟩
        · simp only [heldIn, Option.toList_some, List.any_cons, List.any_nil, Bool.or_false]
          exact hnohost [c] (fun d hd => h d (by rw [List.mem_singleton.mp hd]; exact List.mem_cons_self)) t
  · refine ⟨fun x hx c hc => ?_, nofun, fun t => ?_⟩
    · cases hx
      exact hc
    · simp [heldIn]

theorem heldIn_append (l m : List LockEntry) (pos : Claimant) : heldIn (l ++ m) pos = (heldIn l pos || heldIn m pos) := List.any_append

theorem heldIn_cons (e : LockEntry) (l : List LockEntry) (pos : Claimant) : heldIn (e :: l) pos = (e.holders.contains pos || heldIn l pos) := rfl

/-- A slot releases: the claims that wait are among those that waited, those granted too, and no host position holds more or less (R25). -/
theorem lockRelease_slot (k : SlotId) {l : List LockEntry} (h : SlotsWait l) :
    (∀ x ∈ (lockRelease (.slot k) l).1, ∀ c ∈ x.waiting, ∃ e ∈ l, c ∈ e.waiting) ∧
      (∀ pos ∈ (lockRelease (.slot k) l).2, ∃ e ∈ l, ∃ c ∈ e.waiting, c.pos = pos) ∧
      ∀ t, heldIn (lockRelease (.slot k) l).1 (.host t) = heldIn l (.host t) := by
  induction l with
  | nil => exact ⟨nofun, nofun, fun _ => rfl⟩
  | cons e es ih =>
    obtain ⟨he, hes⟩ := List.forall_mem_cons.mp h
    unfold lockRelease
    split
    · obtain ⟨hwait, hgrant, hheld⟩ := LockEntry.advance_slotsWait (e := { e with holders := e.holders.erase (.slot k) }) he
      refine ⟨fun x hx c hc => ?_, fun pos hpos => ?_, fun t => ?_⟩
      · rcases List.mem_append.mp hx with hx | hx
        · exact ⟨e, List.mem_cons_self, hwait x (Option.mem_toList.mp hx) c hc⟩
        · exact ⟨x, List.mem_cons_of_mem _ hx, hc⟩
      · obtain ⟨c, hc, hp⟩ := hgrant pos hpos
        exact ⟨e, List.mem_cons_self, c, hc, hp⟩
      · have herase : (e.holders.erase (.slot k)).contains (.host t) = e.holders.contains (.host t) := by
          rw [Bool.eq_iff_iff, List.contains_iff_mem, List.contains_iff_mem]
          exact List.mem_erase_of_ne nofun
        dsimp only
        rw [heldIn_append, hheld, heldIn_cons]
        exact congrArg (· || heldIn es (.host t)) herase
    · obtain ⟨hwait, hgrant, hheld⟩ := ih hes
      refine ⟨fun x hx c hc => ?_, fun pos hpos => ?_, fun t => ?_⟩
      · rcases List.mem_cons.mp hx with rfl | hx
        · exact ⟨x, List.mem_cons_self, hc⟩
        · obtain ⟨y, hy, hcy⟩ := hwait x hx c hc
          exact ⟨y, List.mem_cons_of_mem _ hy, hcy⟩
      · obtain ⟨y, hy, c, hc, hp⟩ := hgrant pos hpos
        exact ⟨y, List.mem_cons_of_mem _ hy, c, hc, hp⟩
      · dsimp only
        rw [heldIn_cons, heldIn_cons, hheld]

/-- A slot's claim is placed: it alone may join those that wait, and no host position holds more or less (R24). -/
theorem lockPlace_slot (k : SlotId) (line : Nat) (l : List LockEntry) :
    (∀ x ∈ (lockPlace { pos := .slot k, kind := .sweep } line l).1, ∀ c ∈ x.waiting, (∃ e ∈ l, c ∈ e.waiting) ∨ c.pos = .slot k) ∧
      ∀ t, heldIn (lockPlace { pos := .slot k, kind := .sweep } line l).1 (.host t) = heldIn l (.host t) := by
  by_cases hfree : lockOf l line = none
  · rw [lockPlace_absent _ _ _ hfree]
    refine ⟨fun x hx c hc => ?_, fun t => ?_⟩
    · rcases List.mem_append.mp hx with hx | hx
      · exact .inl ⟨x, hx, hc⟩
      · rw [List.mem_singleton.mp hx] at hc
        cases hc
    · rw [heldIn_append]
      simp [heldIn]
  · obtain ⟨a, e, b, rfl, -, hplace⟩ := lockPlace_sweep_waits k line l (by simpa [lockOf_eq_none] using hfree)
    rw [hplace]
    refine ⟨fun x hx c hc => ?_, fun t => ?_⟩
    · rcases List.mem_append.mp hx with hx | hx
      · exact .inl ⟨x, List.mem_append_left _ hx, hc⟩
      rcases List.mem_cons.mp hx with rfl | hx
      · rcases List.mem_append.mp hc with hc | hc
        · exact .inl ⟨e, List.mem_append_right _ List.mem_cons_self, hc⟩
        · exact .inr (by rw [List.mem_singleton.mp hc])
      · exact .inl ⟨x, List.mem_append_right _ (List.mem_cons_of_mem _ hx), hc⟩
    · simp only [heldIn_append, heldIn_cons]

end Sys2Proof.Machine
end

section
/-! PROOFS. An event of the sweep engine's acts alone, where none but slots wait: the host's side stays, and the log where no slot that starts
has erred. -/

namespace Sys2Proof.Machine

/-- As `settleActs_within`, for a class of acts that depends on the state and that the acts of the class keep. -/
theorem settleActs_within_state {A : State → Act → Prop} {P : State → Prop}
    (h : ∀ a s, A s a → P s → P (perform a s).1 ∧ (∀ b ∈ (perform a s).2, A (perform a s).1 b) ∧ ∀ b, A s b → A (perform a s).1 b)
    {acts : List Act} {s : State} (ha : ∀ a ∈ acts, A s a) (hs : P s) : P (settleActs acts s) := by
  have hruns := runs_settleActs acts s
  generalize settleActs acts s = t at hruns
  induction hruns with
  | nil s => exact hs
  | cons a as s t _ ih =>
    obtain ⟨hp, hacts, hkept⟩ := h a s (ha a List.mem_cons_self) hs
    refine ih (fun b hb => ?_) hp
    rcases List.mem_append.mp hb with hb | hb
    · exact hacts b hb
    · exact hkept b (ha b (List.mem_cons_of_mem _ hb))

/-! ## The host's side -/

/-- What the engine's acts leave of a state in which none but slots wait. -/
structure EngineGoes (s t : State) : Prop where
  frame : t = { s with
    planes := t.planes, locks := t.locks, ports := t.ports, sweep := t.sweep, log := t.log, suspects := t.suspects
    sticky := t.sticky, out := t.out }
  waits : SlotsWait t.locks
  held : ∀ x, heldIn t.locks (.host x) = heldIn s.locks (.host x)
  port : ∀ p, Port.Sweeps (s.port p) (t.port p)

section
variable {s t u : State}

theorem EngineGoes.goes (h : EngineGoes s t) (hu : SlotGoes t u) : EngineGoes s u := by
  have hlocks : u.locks = t.locks := by rw [hu.frame]
  refine ⟨?_, hlocks.symm ▸ h.waits, fun x => by rw [hlocks]; exact h.held x, fun p => (h.port p).trans (hu.port p)⟩
  have hplanes : u.planes = t.planes := by rw [hu.frame]
  rw [hlocks, hplanes]
  conv => lhs; rw [hu.frame]
  conv => lhs; rw [h.frame]

theorem EngineGoes.completeJob (h : EngineGoes s t) : EngineGoes s (completeJob t) := by
  rcases completeJob_cases t with he | ⟨j, -, -, -, -, he⟩
  · rw [he]; exact h
  · obtain ⟨planes, hend⟩ := endJob_shape j .complete t
    rw [he, hend]
    refine ⟨?_, h.waits, h.held, h.port⟩
    conv => lhs; rw [h.frame]

/-- The acts a slot's release brings, where none but slots wait. -/
theorem starts_ofSweep {k : SlotId} (hw : SlotsWait t.locks) (b : Act) (hb : b ∈ (releaseLine (.slot k) t).2) :
    ∃ m, b = .start (.slot m) ∧ ∃ e ∈ t.locks, ∃ c ∈ e.waiting, c.pos = .slot m := by
  obtain ⟨-, hgrant, -⟩ := lockRelease_slot k hw
  have hm : b ∈ (lockRelease (.slot k) t.locks).2.map Act.start ++ [] := hb
  rw [List.append_nil] at hm
  obtain ⟨pos, hmem, rfl⟩ := List.mem_map.mp hm
  obtain ⟨e, he, c, hc, hpos⟩ := hgrant pos hmem
  obtain ⟨m, hm⟩ := c.isSweep_iff.mp (hw e he c hc)
  exact ⟨m, by rw [← hpos, hm], e, he, c, hc, hm⟩

theorem EngineGoes.perform (h : EngineGoes s t) {a : Act} (ha : a.ofSweep) :
    EngineGoes s (perform a t).1 ∧ ∀ b ∈ (perform a t).2, b.ofSweep := by
  rcases ha.cases with ⟨k, rfl⟩ | ⟨k, rfl⟩ | ⟨k, line, rfl⟩ | rfl | rfl
  case inl =>
    exact ⟨h.goes (slotGoes_startSlot k t), startSlot_ofSweep k t⟩
  case inr.inl =>
    obtain ⟨hwait, -, hheld⟩ := lockRelease_slot k h.waits
    refine ⟨⟨?_, fun x hx c hc => ?_, fun x => (hheld x).trans (h.held x), h.port⟩, fun b hb => ?_⟩
    · conv => lhs; rw [h.frame]
      rfl
    · obtain ⟨e, he, hce⟩ := hwait x hx c hc
      exact h.waits e he c hce
    · obtain ⟨m, rfl, -⟩ := starts_ofSweep h.waits b hb
      trivial
  case inr.inr.inl =>
    obtain ⟨hwait, hheld⟩ := lockPlace_slot k line t.locks
    refine ⟨⟨?_, fun x hx c hc => ?_, fun x => (hheld x).trans (h.held x), h.port⟩, fun b hb => ?_⟩
    · conv => lhs; rw [h.frame]
      rfl
    · rcases hwait x hx c hc with ⟨e, he, hce⟩ | hpos
      · exact h.waits e he c hce
      · exact c.isSweep_iff.mpr ⟨k, hpos⟩
    · have hm : b ∈ if (lockPlace { pos := .slot k, kind := .sweep } line t.locks).2 then [Act.start (.slot k)] else [] := hb
      split at hm
      · rw [List.mem_singleton.mp hm]; trivial
      · cases hm
  case inr.inr.inr.inl =>
    show EngineGoes s (placeNext t).1 ∧ ∀ b ∈ (placeNext t).2, b.ofSweep
    rcases placeNext_cases t with he | ⟨j, k, -, -, -, -, -, he⟩ <;> rw [he]
    · exact ⟨h, fun b hb => absurd hb List.not_mem_nil⟩
    · refine ⟨h.goes (.of_ports rfl), fun b hb => ?_⟩
      simp only [List.mem_cons, List.not_mem_nil, or_false] at hb
      rcases hb with rfl | rfl <;> trivial
  case inr.inr.inr.inr => exact ⟨h.completeJob, fun b hb => absurd hb List.not_mem_nil⟩

theorem engineGoes_settle {acts : List Act} (ha : ∀ a ∈ acts, a.ofSweep) (hw : SlotsWait s.locks) : EngineGoes s (settleActs acts s) :=
  settleActs_within (A := Act.ofSweep) (P := EngineGoes s) (fun _ _ ha hu => hu.perform ha) ha ⟨rfl, hw, fun _ => rfl, fun _ => .refl _⟩

end

/-! ## The log -/

/-- No DATA_ERROR has met the line of the slot (R95, R100). -/
def SlotClean (s : State) (k : SlotId) : Prop := ∀ w ∈ s.slot k, w.erred = 0

/-- An act that starts a slot, or claims for it, finds no DATA_ERROR on its line. -/
def Act.cleanIn (s : State) : Act → Prop
  | .start (.slot k) | .place (.slot k) _ _ => SlotClean s k
  | _ => True

/-- What the engine's acts leave of the log and its causes where no slot that waits has erred. -/
structure LogKept (s t : State) : Prop where
  goes : EngineGoes s t
  log : t.log = s.log
  suspects : t.suspects = s.suspects
  sticky : t.sticky = s.sticky
  clean : ∀ e ∈ t.locks, ∀ c ∈ e.waiting, ∀ k, c.pos = .slot k → SlotClean t k

section
variable {s t u : State}

theorem Act.cleanIn.mono {b : Act} (hb : b.cleanIn t) (h : ∀ k, SlotClean t k → SlotClean u k) : b.cleanIn u := by
  cases b with
  | start pos => cases pos with | host x => trivial | slot k => exact h k hb
  | place pos kind line => cases pos with | host x => trivial | slot k => exact h k hb
  | _ => trivial

theorem slotClean_setSlot {k : SlotId} {x : Option SlotWork} (hx : ∀ w ∈ x, w.erred = 0) (hslots : u.sweep.slots = (t.setSlot k x).sweep.slots)
    (m : SlotId) (h : SlotClean t m) : SlotClean u m := by
  have hm : u.slot m = (t.setSlot k x).slot m := by simp only [State.slot, hslots]
  unfold SlotClean
  rw [hm, State.setSlot_slot]
  split
  · exact hx
  · exact h

/-- A clean slot starts without a record, and stays clean (R93, R95, R99, R100). -/
theorem startSlot_clean {k : SlotId} (h : SlotClean t k) : (startSlot k t).1.log = t.log ∧ (startSlot k t).1.suspects = t.suspects ∧
    (startSlot k t).1.sticky = t.sticky ∧ ∀ m, SlotClean t m → SlotClean (startSlot k t).1 m := by
  rcases startSlot_cases k t with he | ⟨w, hw, hs⟩
  · rw [he]; exact ⟨rfl, rfl, rfl, fun _ hm => hm⟩
  have hclean := h w hw
  cases hs with
  | finishes b w' he hs =>
    obtain ⟨job, hf⟩ := finishLine_shape k b (t.setSlot k (some w'))
    rw [hs, hf]
    exact ⟨rfl, rfl, rfl, slotClean_setSlot (x := some w') (fun v hv => by cases hv; exact he.trans hclean) rfl⟩
  | places op g w' ho he hs =>
    obtain ⟨ports, out, hops⟩ := placeOps_frame op g (t.setSlot k (some w'))
    rw [hs, hops]
    exact ⟨rfl, rfl, rfl, slotClean_setSlot (x := some w') (fun v hv => by cases hv; exact he.trans hclean) rfl⟩
  | distrusted j hne hs => exact absurd hclean hne

theorem LogKept.of_eq (h : LogKept s t) (hg : EngineGoes s u) (hl : u.log = t.log) (hs : u.suspects = t.suspects) (hc : u.sticky = t.sticky)
    (hw : ∀ e ∈ u.locks, ∀ c ∈ e.waiting, ∀ k, c.pos = .slot k → SlotClean u k) : LogKept s u :=
  ⟨hg, hl.trans h.log, hs.trans h.suspects, hc.trans h.sticky, hw⟩

theorem completeJob_kept (t : State) : (completeJob t).log = t.log ∧ (completeJob t).suspects = t.suspects ∧
    (completeJob t).sticky = t.sticky ∧ (completeJob t).locks = t.locks ∧ (completeJob t).sweep.slots = t.sweep.slots := by
  rcases completeJob_cases t with he | ⟨j, -, -, -, -, he⟩
  · rw [he]; exact ⟨rfl, rfl, rfl, rfl, rfl⟩
  · obtain ⟨planes, hend⟩ := endJob_shape j .complete t
    rw [he, hend]
    refine ⟨rfl, rfl, rfl, rfl, ?_⟩
    unfold Sweep.ended
    split <;> rfl

theorem LogKept.perform (h : LogKept s t) {a : Act} (ha : a.ofSweep) (hc : a.cleanIn t) :
    LogKept s (perform a t).1 ∧ (∀ b ∈ (perform a t).2, b.cleanIn (perform a t).1) ∧ ∀ k, SlotClean t k → SlotClean (perform a t).1 k := by
  obtain ⟨hgoes, hacts⟩ := h.goes.perform ha
  rcases ha.cases with ⟨k, rfl⟩ | ⟨k, rfl⟩ | ⟨k, line, rfl⟩ | rfl | rfl
  case inl =>
    obtain ⟨hl, hs, hst, hmono⟩ := startSlot_clean (k := k) hc
    have hlocks : (startSlot k t).1.locks = t.locks := by rw [(slotGoes_startSlot k t).frame]
    refine ⟨h.of_eq hgoes hl hs hst fun e he c hcm m hm => hmono m (h.clean e (hlocks ▸ he) c hcm m hm), fun b hb => ?_, hmono⟩
    have hends : b ∈ endActs (.slot k) := by
      rcases (does_startSlot k t).acts with hd | hd
      · rw [show (Machine.perform (.start (.slot k)) t).2 = [] from hd] at hb; cases hb
      · exact hd ▸ hb
    simp only [endActs, List.mem_cons, List.not_mem_nil, or_false] at hends
    rcases hends with rfl | rfl | rfl <;> trivial
  case inr.inl =>
    obtain ⟨hwait, -, -⟩ := lockRelease_slot k h.goes.waits
    have hmono : ∀ m, SlotClean t m → SlotClean (Machine.perform (.release (.slot k)) t).1 m := slotClean_setSlot (k := k) (x := none) nofun rfl
    refine ⟨h.of_eq hgoes rfl rfl rfl fun e he c hcm m hm => ?_, fun b hb => ?_, hmono⟩
    · obtain ⟨e', he', hce⟩ := hwait e he c hcm
      exact hmono m (h.clean e' he' c hce m hm)
    · obtain ⟨m, rfl, e, he, c, hce, hpos⟩ := starts_ofSweep h.goes.waits b hb
      exact hmono m (h.clean e he c hce m hpos)
  case inr.inr.inl =>
    obtain ⟨hwait, -⟩ := lockPlace_slot k line t.locks
    refine ⟨h.of_eq hgoes rfl rfl rfl fun e he c hcm m hm => ?_, fun b hb => ?_, fun _ hm => hm⟩
    · rcases hwait e he c hcm with ⟨e', he', hce⟩ | hpos
      · exact h.clean e' he' c hce m hm
      · rw [hpos] at hm
        cases hm
        exact hc
    · have hm : b ∈ if (lockPlace { pos := .slot k, kind := .sweep } line t.locks).2 then [Act.start (.slot k)] else [] := hb
      split at hm
      · rw [List.mem_singleton.mp hm]; exact hc
      · cases hm
  case inr.inr.inr.inl =>
    show LogKept s (placeNext t).1 ∧ (∀ b ∈ (placeNext t).2, b.cleanIn (placeNext t).1) ∧ ∀ k, SlotClean t k → SlotClean (placeNext t).1 k
    have hgoes' : EngineGoes s (placeNext t).1 := hgoes
    rcases placeNext_cases t with he | ⟨j, k, -, -, -, -, -, he⟩ <;> rw [he] at hgoes' ⊢
    · exact ⟨h, fun b hb => absurd hb List.not_mem_nil, fun _ hm => hm⟩
    · generalize hu : (t.setSlot k (some { line := j.cursor })).setJob { j with cursor := j.cursor + 1 } = u at hgoes'
      have hmono : ∀ m, SlotClean t m → SlotClean u m :=
        slotClean_setSlot (k := k) (x := some { line := j.cursor }) (fun w hw => by cases hw; rfl) (by rw [← hu]; rfl)
      have hnew : SlotClean u k := fun w hw => by
        have hk : u.slot k = some { line := j.cursor } := by rw [← hu]; exact State.setSlot_slot_same ..
        rw [hk] at hw
        cases hw
        rfl
      refine ⟨h.of_eq hgoes' (by rw [← hu]; rfl) (by rw [← hu]; rfl) (by rw [← hu]; rfl) fun e hm c hcm m hp => ?_, fun b hb => ?_, hmono⟩
      · rw [← hu] at hm
        exact hmono m (h.clean e hm c hcm m hp)
      · simp only [List.mem_cons, List.not_mem_nil, or_false] at hb
        rcases hb with rfl | rfl
        · exact hnew
        · trivial
  case inr.inr.inr.inr =>
    obtain ⟨hl, hs, hst, hlocks, hslots⟩ := completeJob_kept t
    have hmono : ∀ m, SlotClean t m → SlotClean (completeJob t) m := fun m hm => by
      unfold SlotClean State.slot
      rw [hslots]
      exact hm
    exact ⟨h.of_eq hgoes hl hs hst fun e he c hcm m hm => hmono m (h.clean e (hlocks ▸ he) c hcm m hm),
      fun b hb => absurd hb List.not_mem_nil, hmono⟩

theorem logKept_settle {acts : List Act} (ha : ∀ a ∈ acts, a.ofSweep) (hc : ∀ a ∈ acts, a.cleanIn s) (hw : SlotsWait s.locks)
    (hclean : ∀ e ∈ s.locks, ∀ c ∈ e.waiting, ∀ k, c.pos = .slot k → SlotClean s k) : LogKept s (settleActs acts s) :=
  settleActs_within_state (A := fun u a => a.ofSweep ∧ a.cleanIn u) (P := LogKept s)
    (fun _ _ ⟨ha, hc⟩ hu =>
      let ⟨hkept, hacts, hmono⟩ := hu.perform ha hc
      ⟨hkept, fun b hb => ⟨(hu.goes.perform ha).2 b hb, hacts b hb⟩, fun _ ⟨hb, hcb⟩ => ⟨hb, hcb.mono hmono⟩⟩)
    (fun a hm => ⟨ha a hm, hc a hm⟩) ⟨⟨rfl, hw, fun _ => rfl, fun _ => .refl _⟩, rfl, rfl, rfl, hclean⟩

end

end Sys2Proof.Machine
end

section
/-! PROOFS. What HRST# falling leaves of the lock table, and the records it posts, tag by tag. -/

namespace Sys2Proof.Machine

/-! ## The lock table -/

theorem lockCutOff_cons (released : Claimant → Bool) (e : LockEntry) (es : List LockEntry) :
    lockCutOff released (e :: es) = ((e.cutOff released).1.toList ++ (lockCutOff released es).1,
      (e.cutOff released).2 ++ (lockCutOff released es).2) := by
  unfold lockCutOff
  cases h : (e.cutOff released).1 <;> simp [h]

/-- The table at a host channel reset: what waits or is granted is a sweep claim that waited, and a host position holds what it held, unless
it is released (R33). -/
theorem lockCutOff_facts (released : Claimant → Bool) (l : List LockEntry) :
    (∀ x ∈ (lockCutOff released l).1, ∀ c ∈ x.waiting, c.isSweep = true ∧ ∃ e ∈ l, c ∈ e.waiting) ∧
      (∀ pos ∈ (lockCutOff released l).2, ∃ e ∈ l, ∃ c ∈ e.waiting, c.isSweep = true ∧ c.pos = pos) ∧
      ∀ t, heldIn (lockCutOff released l).1 (.host t) = (heldIn l (.host t) && !released (.host t)) := by
  induction l with
  | nil => exact ⟨nofun, nofun, fun _ => rfl⟩
  | cons e es ih =>
    obtain ⟨hwait, hgrant, hheld⟩ := ih
    have hsweeps : ∀ c ∈ e.waiting.filter Claim.isSweep, c.isSweep = true := fun c hc => (List.mem_filter.mp hc).2
    obtain ⟨hwait', hgrant', hheld'⟩ := LockEntry.advance_slotsWait
      (e := { e with holders := e.holders.filter fun h => !released h, waiting := e.waiting.filter Claim.isSweep }) hsweeps
    rw [lockCutOff_cons]
    refine ⟨fun x hx c hc => ?_, fun pos hpos => ?_, fun t => ?_⟩
    · rcases List.mem_append.mp hx with hx | hx
      · obtain ⟨hmem, hsweep⟩ := List.mem_filter.mp (hwait' x (Option.mem_toList.mp hx) c hc)
        exact ⟨hsweep, e, List.mem_cons_self, hmem⟩
      · obtain ⟨hsweep, y, hy, hcy⟩ := hwait x hx c hc
        exact ⟨hsweep, y, List.mem_cons_of_mem _ hy, hcy⟩
    · rcases List.mem_append.mp hpos with hpos | hpos
      · obtain ⟨c, hc, hp⟩ := hgrant' pos hpos
        obtain ⟨hmem, hsweep⟩ := List.mem_filter.mp hc
        exact ⟨e, List.mem_cons_self, c, hmem, hsweep, hp⟩
      · obtain ⟨y, hy, c, hc, hp⟩ := hgrant pos hpos
        exact ⟨y, List.mem_cons_of_mem _ hy, c, hc, hp⟩
    · have hfilter : (e.holders.filter fun h => !released h).contains (.host t) = (e.holders.contains (.host t) && !released (.host t)) := by
        rw [Bool.eq_iff_iff, List.contains_iff_mem, List.mem_filter, Bool.and_eq_true, List.contains_iff_mem]
      dsimp only
      rw [heldIn_append, heldIn_cons, hheld, show heldIn (e.cutOff released).1.toList (.host t) = _ from hheld' t, hfilter,
        Bool.and_or_distrib_right]

/-! ## The holders released -/

/-- A holder with no op left releases its line in the reset event (R33 step 4). -/
theorem releasedAtReset_cut (s : State) (t : Tag) :
    releasedAtReset (clearChannel (allTags.foldl cutOffTag s)) (.host t) = ((keptAtCut s t).map Request.settled).getD false := by
  have hcut := foldl_cutOffTag_position allTags (List.nodup_finRange 32) s t
  rw [if_pos (mem_allTags t)] at hcut
  generalize allTags.foldl cutOffTag s = v at hcut
  have hv : (clearChannel v).position t = v.position t := rfl
  unfold releasedAtReset
  dsimp only
  rw [hv, hcut]

theorem channelCut_locks (s : State) :
    (channelCut s).locks = (lockCutOff (releasedAtReset (clearChannel (allTags.foldl cutOffTag s))) s.locks).1 := by
  obtain ⟨positions, ports, h⟩ := channelCut_shape s
  rw [h]

/-- A position holds its line after the cut where it held one and has an op left. -/
theorem channelCut_held (s : State) (t : Tag) : heldIn (channelCut s).locks (.host t) =
    (holdsLine s (.host t) && !((keptAtCut s t).map Request.settled).getD false) := by
  rw [channelCut_locks]
  have hheld := (lockCutOff_facts (releasedAtReset (clearChannel (allTags.foldl cutOffTag s))) s.locks).2.2 t
  rw [releasedAtReset_cut] at hheld
  exact hheld

/-! ## The records -/

/-- The records that HRST# falling posts for a tag (R60, R85). -/
def cutRecords (s : State) (t : Tag) : List RecBody :=
  if holdsLine s (.host t) then
    match requestAt s t with
    | some r => if r.isOrphan then [] else orphanRecords t r (unissuedPlanes s t)
    | none => []
  else []

section
variable {s t : State} {x : Tag}

theorem cutRecords_free (h : holdsLine s (.host x) = false) : cutRecords s x = [] := by
  unfold cutRecords
  rw [h]
  rfl

theorem cutRecords_holder {r : Request} (h : holdsLine s (.host x) = true) (hr : requestAt s x = some r) :
    cutRecords s x = if r.isOrphan then [] else orphanRecords x r (unissuedPlanes s x) := by
  unfold cutRecords
  rw [if_pos h, hr]

theorem cutRecords_none (hr : requestAt s x = none) : cutRecords s x = [] := by
  unfold cutRecords
  rw [hr]
  split <;> rfl

/-- Postings read the log and write it, and the sticky causes, whatever else the state holds. -/
theorem foldl_postRecord_congr (l : List RecBody) (hl : t.log = s.log) (hc : t.sticky = s.sticky) :
    (l.foldl (fun s b => postRecord b s) t).log = (l.foldl (fun s b => postRecord b s) s).log ∧
      (l.foldl (fun s b => postRecord b s) t).sticky = (l.foldl (fun s b => postRecord b s) s).sticky := by
  induction l generalizing s t with
  | nil => exact ⟨hl, hc⟩
  | cons b l ih =>
    rw [List.foldl_cons, List.foldl_cons]
    refine ih ?_ ?_ <;> rw [postRecord_eq, postRecord_eq, hl]
    rw [hc]

/-- The cut at a tag posts the tag's records. -/
theorem cutOffTag_posts (s : State) (x : Tag) :
    (cutOffTag s x).log = ((cutRecords s x).foldl (fun s b => postRecord b s) s).log ∧
      (cutOffTag s x).sticky = ((cutRecords s x).foldl (fun s b => postRecord b s) s).sticky := by
  cases hh : holdsLine s (.host x) with
  | false =>
    have hcut : cutOffTag s x = s.setPosition x { kept := none, heldBack := none } := by
      unfold cutOffTag
      rw [hh]
      rfl
    rw [hcut, cutRecords_free hh]
    exact ⟨rfl, rfl⟩
  | true =>
    cases hr : requestAt s x with
    | none =>
      have hcut : cutOffTag s x = s.setPosition x { kept := none, heldBack := none } := by
        unfold cutOffTag
        rw [if_pos hh, hr]
      rw [hcut, cutRecords_none hr]
      exact ⟨rfl, rfl⟩
    | some r =>
      have hcut : cutOffTag s x = if r.isOrphan then s.setPosition x { kept := some r, heldBack := none }
          else (orphanRecords x r (unissuedPlanes s x)).foldl (fun s b => postRecord b s)
            (s.setPosition x { kept := some (r.cutOff (unissuedPlanes s x)), heldBack := none }) := by
        unfold cutOffTag
        rw [if_pos hh, hr]
      rw [hcut, cutRecords_holder hh hr]
      split
      · exact ⟨rfl, rfl⟩
      · exact foldl_postRecord_congr _ rfl rfl

/-- The cut at one tag leaves the records of another. -/
theorem cutRecords_cutOffTag (s : State) (x y : Tag) (h : y ≠ x) : cutRecords (cutOffTag s x) y = cutRecords s y := by
  have hp := cutOffTag_position s x y
  rw [if_neg h] at hp
  obtain ⟨positions, log, sticky, he⟩ := cutOffTag_shape s x
  rw [he] at hp ⊢
  have hat : requestAt { s with positions := positions, log := log, sticky := sticky } y = requestAt s y := by
    unfold requestAt
    rw [hp]
    rfl
  unfold cutRecords
  rw [hat]
  rfl

theorem foldl_cutOffTag_posts (l : List Tag) (hl : l.Nodup) (s : State) :
    (l.foldl cutOffTag s).log = ((l.flatMap (cutRecords s)).foldl (fun s b => postRecord b s) s).log ∧
      (l.foldl cutOffTag s).sticky = ((l.flatMap (cutRecords s)).foldl (fun s b => postRecord b s) s).sticky := by
  induction l generalizing s with
  | nil => exact ⟨rfl, rfl⟩
  | cons x l ih =>
    obtain ⟨hx, hl⟩ := List.nodup_cons.mp hl
    have hrest : l.flatMap (cutRecords (cutOffTag s x)) = l.flatMap (cutRecords s) :=
      List.flatMap_congr fun y hy => cutRecords_cutOffTag s x y fun h => hx (h ▸ hy)
    obtain ⟨hlog, hsticky⟩ := cutOffTag_posts s x
    obtain ⟨hlog', hsticky'⟩ := foldl_postRecord_congr (l.flatMap (cutRecords s)) hlog hsticky
    obtain ⟨hih, hih'⟩ := ih hl (cutOffTag s x)
    rw [List.foldl_cons, List.flatMap_cons, List.foldl_append, hih, hih', hrest]
    exact ⟨hlog', hsticky'⟩

/-- The records of withdrawn work are posted in ascending order of tag (R33, R60, R85). -/
theorem channelCut_posts (s : State) :
    (channelCut s).log = ((allTags.flatMap (cutRecords s)).foldl (fun s b => postRecord b s) s).log ∧
      (channelCut s).sticky = ((allTags.flatMap (cutRecords s)).foldl (fun s b => postRecord b s) s).sticky := by
  obtain ⟨positions, ports, h⟩ := channelCut_shape s
  obtain ⟨hlog, hsticky⟩ := foldl_cutOffTag_posts allTags (List.nodup_finRange 32) s
  have hcut : (channelCut s).log = (allTags.foldl cutOffTag s).log := by rw [h]
  have hcut' : (channelCut s).sticky = (allTags.foldl cutOffTag s).sticky := by rw [h]
  exact ⟨hcut.trans hlog, hcut'.trans hsticky⟩

end

/-! ## The requests -/

section
variable {s : State} {t : Tag} {r : Request}

theorem inSet_unissuedPlanes (s : State) (t : Tag) (q : PlaneId) :
    inSet (unissuedPlanes s t) q = true ↔ ∃ op ∈ (s.port q).hostList, op.owner = .host t := by
  simp [unissuedPlanes]

theorem keptAtCut_free (h : holdsLine s (.host t) = false) : keptAtCut s t = none := by
  unfold keptAtCut
  rw [h]
  rfl

theorem keptAtCut_holder (h : holdsLine s (.host t) = true) (hr : requestAt s t = some r) :
    keptAtCut s t = some (if r.isOrphan then r else r.cutOff (unissuedPlanes s t)) := by
  unfold keptAtCut
  rw [if_pos h, hr]
  rfl

/-- A request with work is an orphan's after the cut. -/
theorem isOrphan_cut (g : PlaneSet) (h : r.work ≠ none) : (if r.isOrphan then r else r.cutOff g).isOrphan = true := by
  split
  · next ho => exact ho
  · unfold Request.cutOff Request.isOrphan
    cases hw : r.work with
    | none => exact absurd hw h
    | some k => cases k <;> rfl

/-- The kind of the record of removed repair writes: the copies were divided or not (R85). -/
theorem postedKind_eq (x : ReadRec) : postedKind x =
    if ∃ a ∈ x.copies, ∃ b ∈ x.copies, a.2 ≠ b.2 then .mismatch else .readError := by
  unfold postedKind
  by_cases h : ∃ a ∈ x.copies, ∃ b ∈ x.copies, a.2 ≠ b.2
  · rw [if_pos h]
    obtain ⟨hmajority, hsplit⟩ := vote_divided x.erred h
    by_cases hd : ∃ d, IsMajority x.copies d
    · obtain ⟨d, hd⟩ := hd
      rw [hmajority d hd]
    · rw [hsplit fun d hm => hd ⟨d, hm⟩]
  · rw [if_neg h]
    cases hc : x.copies with
    | nil =>
      have hv : vote [] x.erred = .nothing ∨ vote [] x.erred = .noGoodCopy := by
        unfold vote
        dsimp only
        split
        · exact .inl rfl
        · exact .inr rfl
      rcases hv with hv | hv <;> rw [hv]
    | cons c l =>
      push Not at h
      rw [vote_agreed (d := c.2) x.erred (List.cons_ne_nil _ _) fun a ha => h a (hc ▸ ha) c (hc ▸ List.mem_cons_self)]

end

end Sys2Proof.Machine
end

section
/-! PROOFS. The statement about HRST# falling. -/

namespace Sys2Proof.Machine

/-! ## The event -/

/-- The slots granted their lines by HRST# falling (R33). -/
def grantedAtReset (s : State) : List SlotId :=
  allSlots.filter fun k => (lockCutOff (releasedAtReset (clearChannel (allTags.foldl cutOffTag s))) s.locks).2.contains (.slot k)

/-- The state after the acts of HRST# falling, before the drains are tested. -/
def resetSettled (s : State) : State := settleActs ((grantedAtReset s).map fun k => Act.start (.slot k)) (channelCut s)

theorem resetHostChannel_eq (s : State) : resetHostChannel s = endOfEvent (resetSettled s) := by
  have hlocks : (clearChannel (allTags.foldl cutOffTag s)).locks = s.locks := by
    obtain ⟨positions, log, sticky, h⟩ := foldl_cutOffTag_shape allTags s
    rw [h]
    rfl
  unfold resetHostChannel resetSettled grantedAtReset channelCut
  dsimp only
  rw [hlocks]

section
variable {s : State}

theorem mem_grantedAtReset {k : SlotId} (h : k ∈ grantedAtReset s) :
    ∃ e ∈ s.locks, ∃ c ∈ e.waiting, c.isSweep = true ∧ c.pos = .slot k :=
  (lockCutOff_facts _ s.locks).2.1 _ (List.contains_iff_mem.mp (List.mem_filter.mp h).2)

theorem slotsWait_channelCut (s : State) : SlotsWait (channelCut s).locks := fun x hx c hc => by
  rw [channelCut_locks] at hx
  exact ((lockCutOff_facts _ s.locks).1 x hx c hc).1

theorem starts_of_granted (a : Act) (ha : a ∈ (grantedAtReset s).map fun k => Act.start (.slot k)) :
    ∃ k ∈ grantedAtReset s, a = .start (.slot k) := by
  obtain ⟨k, hk, rfl⟩ := List.mem_map.mp ha
  exact ⟨k, hk, rfl⟩

theorem resetSettled_goes (s : State) : EngineGoes (channelCut s) (resetSettled s) :=
  engineGoes_settle (fun a ha => by obtain ⟨k, -, rfl⟩ := starts_of_granted a ha; trivial) (slotsWait_channelCut s)

/-- Where no sweep claim waits, none is granted. -/
theorem resetSettled_quiet (h : ∀ e ∈ s.locks, ∀ c ∈ e.waiting, c.isSweep = false) : resetSettled s = channelCut s := by
  have hnone : grantedAtReset s = [] := List.eq_nil_iff_forall_not_mem.mpr fun k hk => by
    obtain ⟨e, he, c, hc, hsweep, -⟩ := mem_grantedAtReset hk
    rw [h e he c hc] at hsweep
    cases hsweep
  unfold resetSettled
  rw [hnone]
  exact settleActs_nil _

/-- The log takes no other record where no sweep line that waits has erred. -/
theorem resetSettled_log (h : ∀ e ∈ s.locks, ∀ c ∈ e.waiting, ∀ k, c.pos = .slot k → ∀ w ∈ s.slot k, w.erred = 0) :
    LogKept (channelCut s) (resetSettled s) := by
  have hslots : ∀ k, (channelCut s).slot k = s.slot k := fun k => by
    obtain ⟨positions, ports, hc⟩ := channelCut_shape s
    rw [hc]
    rfl
  have hclean : ∀ e ∈ s.locks, ∀ c ∈ e.waiting, ∀ k, c.pos = .slot k → SlotClean (channelCut s) k := fun e he c hc k hk => by
    unfold SlotClean
    rw [hslots]
    exact h e he c hc k hk
  refine logKept_settle (fun a ha => ?_) (fun a ha => ?_) (slotsWait_channelCut s) fun e he c hc k hk => ?_
  · obtain ⟨k, -, rfl⟩ := starts_of_granted a ha
    trivial
  · obtain ⟨k, hk, rfl⟩ := starts_of_granted a ha
    obtain ⟨e, he, c, hc, -, hpos⟩ := mem_grantedAtReset hk
    exact hclean e he c hc k hpos
  · rw [channelCut_locks] at he
    obtain ⟨-, e', he', hc'⟩ := (lockCutOff_facts _ s.locks).1 e he c hc
    exact hclean e' he' c hc' k hk

end

theorem foldl_drainPlane_shape (l : List PlaneId) (s : State) :
    ∃ planes mgmt, l.foldl drainPlane s = { s with planes := planes, mgmt := mgmt } := by
  induction l generalizing s with
  | nil => exact ⟨_, _, rfl⟩
  | cons p l ih =>
    obtain ⟨planes, mgmt, h⟩ := ih (drainPlane s p)
    refine ⟨planes, mgmt, h.trans ?_⟩
    rcases drainPlane_cases s p with he | ⟨-, -, he⟩ <;> rw [he]
    rfl

/-- The end of an event writes plane records, engine and management port alone (R13, R107). -/
theorem endOfEvent_shape (s : State) : ∃ planes mgmt, endOfEvent s = { s with planes := planes, sweep := (endAbort s).sweep, mgmt := mgmt } := by
  obtain ⟨planes, mgmt, h⟩ := foldl_drainPlane_shape allPlanes (endAbort s)
  refine ⟨planes, mgmt, h.trans ?_⟩
  rcases endAbort_cases s with he | ⟨j, o, -, -, -, -, -, he⟩
  · rw [he]
  · obtain ⟨planes', hend⟩ := endJob_shape j o s
    rw [he, hend]

theorem endOfEvent_writes (s : State) : endOfEvent s = { s with
    planes := (endOfEvent s).planes, sweep := (endOfEvent s).sweep, mgmt := (endOfEvent s).mgmt } := by
  obtain ⟨planes, mgmt, h⟩ := endOfEvent_shape s
  rw [h]

/-! ## What the event leaves -/

/-- What the reset event leaves of the state as HRST# fell. -/
structure ResetLeaves (s u : State) : Prop where
  frame : u = { s with
    planes := u.planes, locks := u.locks, positions := u.positions, tags := u.tags, responses := u.responses
    requestAssembly := u.requestAssembly, ports := u.ports, sweep := u.sweep, log := u.log, suspects := u.suspects
    sticky := u.sticky, mgmt := u.mgmt, out := u.out }
  tag : ∀ t, u.tag t = .free
  position : ∀ t, u.position t = { kept := (keptAtCut s t).filter fun r => !r.settled, heldBack := none }
  held : ∀ t, holdsLine u (.host t) = (holdsLine s (.host t) && !((keptAtCut s t).map Request.settled).getD false)
  responses : u.responses = []
  assembly : u.requestAssembly = []
  waits : SlotsWait u.locks
  port : ∀ p, Port.Sweeps { s.port p with hostList := [] } (u.port p)
  plane : ∀ p, (s.plane p).state ≠ .syncing → (s.plane p).state ≠ .detaching → u.plane p = s.plane p
  mgmt : (∀ p, (s.plane p).state ≠ .detaching) → u.mgmt = s.mgmt

theorem resetHostChannel_leaves (s : State) : ResetLeaves s (resetHostChannel s) := by
  obtain ⟨positions, ports, hcut⟩ := channelCut_shape s
  have hgoes := resetSettled_goes s
  have hplanesGo : PlanesGo (channelCut s) (resetSettled s) := settleActs_planesGo _ _
  have hends := endOfEvent_ends (resetSettled s)
  have hend := endOfEvent_writes (resetSettled s)
  have hcalm := endOfEvent_calm (resetSettled s)
  have hcutPlane : ∀ p, (channelCut s).plane p = s.plane p := fun p => by rw [hcut]; rfl
  have hposition := channelCut_position s
  have hheld := channelCut_held s
  have hport := channelCut_port s
  have htags : (channelCut s).tags = Vector.replicate 32 .free := by rw [hcut]
  have hmgmt : (resetSettled s).mgmt = s.mgmt := by rw [hgoes.frame, hcut]
  rw [resetHostChannel_eq]
  have hsettledPlane : ∀ p, (s.plane p).state ≠ .syncing → (resetSettled s).plane p = s.plane p := fun p hp => by
    rcases hplanesGo.plane p with he | ⟨hs, -, -⟩
    · rw [he, hcutPlane]
    · rw [hcutPlane] at hs
      exact absurd hs hp
  have hsettledCalm : (∀ p, (s.plane p).state ≠ .detaching) → ∀ p, ((resetSettled s).plane p).state ≠ .detaching := fun h p => by
    rcases hplanesGo.plane p with he | ⟨-, -, he⟩ <;> rw [he]
    · rw [hcutPlane]; exact h p
    · simp
  generalize endOfEvent (resetSettled s) = u at hends hend hcalm
  have hframe : u = { channelCut s with
      planes := u.planes, locks := (resetSettled s).locks, ports := (resetSettled s).ports, sweep := u.sweep, log := (resetSettled s).log
      suspects := (resetSettled s).suspects, sticky := (resetSettled s).sticky, mgmt := u.mgmt, out := (resetSettled s).out } := by
    refine hend.trans ?_
    conv => lhs; rw [hgoes.frame]
  refine ⟨?frame, fun t => ?tag, fun t => ?position, fun t => ?held, ?responses, ?assembly, ?waits, fun p => ?port, fun p hs hd => ?plane,
    fun h => ?mgmt⟩
  case frame => rw [hframe, hcut]
  case tag =>
    have hu : u.tag t = (Vector.replicate 32 TagEntry.free)[t] := by
      rw [hframe]
      simp only [State.tag, htags]
    rw [hu]
    exact Vector.getElem_replicate _
  case position =>
    have hpos : u.positions = (channelCut s).positions := by rw [hframe]
    rw [← hposition]
    simp only [State.position, hpos]
  case held =>
    have hlocks : u.locks = (resetSettled s).locks := by rw [hframe]
    rw [← hheld, ← hgoes.held, holdsLine_eq, hlocks]
  case responses => rw [hframe, hcut]
  case assembly => rw [hframe, hcut]
  case waits =>
    have hlocks : u.locks = (resetSettled s).locks := by rw [hframe]
    rw [hlocks]
    exact hgoes.waits
  case port =>
    rw [← hport, hends.port]
    exact hgoes.port p
  case plane =>
    have hp := hsettledPlane p hs
    rw [hends.plane_eq p (by rw [hp]; exact hd) (by rw [hp]; exact hs), hp]
  case mgmt =>
    rw [hcalm (hsettledCalm h)]
    rcases endAbort_cases (resetSettled s) with he | ⟨j, o, -, -, -, -, -, he⟩
    · rw [he, hmgmt]
    · obtain ⟨planes', hend'⟩ := endJob_shape j o (resetSettled s)
      rw [he, hend']
      exact hmgmt

/-- What the reset event leaves where no sweep claim waits. -/
theorem resetHostChannel_quiet {s : State} (h : ∀ e ∈ s.locks, ∀ c ∈ e.waiting, c.isSweep = false) :
    (∀ p, (resetHostChannel s).port p = { s.port p with hostList := [] }) ∧
      (s.sweep.engine ≠ .aborting → (resetHostChannel s).sweep = s.sweep ∧
        ∀ p, (s.plane p).state ≠ .detaching → (resetHostChannel s).plane p = s.plane p) := by
  obtain ⟨positions, ports, hcut⟩ := channelCut_shape s
  have hplane : ∀ p, (channelCut s).plane p = s.plane p := fun p => by rw [hcut]; rfl
  have hsweep : (channelCut s).sweep = s.sweep := by rw [hcut]
  have hport := channelCut_port s
  rw [resetHostChannel_eq, resetSettled_quiet h]
  generalize channelCut s = c at hplane hsweep hport
  refine ⟨fun p => by rw [(endOfEvent_ends c).port, hport], fun hab => ?_⟩
  have hnone : endAbort c = c := endAbort_eq c fun j _ he => absurd (hsweep ▸ he) hab
  obtain ⟨planes, mgmt, hend⟩ := endOfEvent_shape c
  refine ⟨by rw [hend, hnone]; exact hsweep, fun p hp => ?_⟩
  unfold endOfEvent
  rw [hnone]
  have hdrained : ∀ (l : List PlaneId) (v : State), v.plane p = s.plane p → (l.foldl drainPlane v).plane p = s.plane p := by
    intro l
    induction l with
    | nil => exact fun _ hv => hv
    | cons q l ih =>
      intro v hv
      refine ih _ ?_
      by_cases hq : p = q
      · subst hq
        unfold drainPlane
        rw [if_neg fun hc => hp (hv ▸ hc.1)]
        exact hv
      · rw [drainPlane_plane_of_ne v hq]
        exact hv
  exact hdrained allPlanes c (hplane p)

/-- The log, the suspect table and the sticky causes after the reset event. -/
theorem resetHostChannel_log {s : State} (h : ∀ e ∈ s.locks, ∀ c ∈ e.waiting, ∀ k, c.pos = .slot k → ∀ w ∈ s.slot k, w.erred = 0) :
    (resetHostChannel s).suspects = s.suspects ∧
      (resetHostChannel s).log = ((allTags.flatMap (cutRecords s)).foldl (fun s b => postRecord b s) s).log ∧
      (resetHostChannel s).sticky = ((allTags.flatMap (cutRecords s)).foldl (fun s b => postRecord b s) s).sticky := by
  have hlog := resetSettled_log h
  obtain ⟨hcutLog, hcutSticky⟩ := channelCut_posts s
  obtain ⟨positions, ports, hcut⟩ := channelCut_shape s
  have hcutSuspects : (channelCut s).suspects = s.suspects := by rw [hcut]
  obtain ⟨planes, mgmt, hend⟩ := endOfEvent_shape (resetSettled s)
  rw [resetHostChannel_eq, ← hcutLog, ← hcutSticky, ← hcutSuspects, hend]
  exact ⟨hlog.suspects, hlog.log, hlog.sticky⟩

end Sys2Proof.Machine
end

section
/-! PROOFS. HRST# falling, tag by tag, and the statement about it. -/

namespace Sys2Proof.Machine

/-! ## Sets of planes -/

theorem inSet_lessPlanes_unissued (s : State) (t : Tag) (g : PlaneSet) (q : PlaneId) :
    inSet (lessPlanes g (unissuedPlanes s t)) q = true ↔ inSet g q = true ∧ ¬∃ op ∈ (s.port q).hostList, op.owner = .host t := by
  rw [← inSet_unissuedPlanes]
  simp

theorem inSet_and_unissued (s : State) (t : Tag) (g : PlaneSet) (q : PlaneId) :
    inSet (g &&& unissuedPlanes s t) q = true ↔ inSet g q = true ∧ ∃ op ∈ (s.port q).hostList, op.owner = .host t := by
  rw [← inSet_unissuedPlanes, inSet_and, Bool.and_eq_true]

theorem inSet_or_unissued (s : State) (t : Tag) (g h : PlaneSet) (q : PlaneId) :
    inSet (g ||| (h &&& unissuedPlanes s t)) q = true ↔
      inSet g q = true ∨ inSet h q = true ∧ ∃ op ∈ (s.port q).hostList, op.owner = .host t := by
  rw [← inSet_and_unissued]
  simp

/-! ## One holder -/

section
variable {s u : State} {t : Tag} {r : Request}

/-- The request a position keeps, where it held a line and has an op left, and the line it holds then. -/
theorem ResetLeaves.kept {r' : Request} (h : ResetLeaves s u) (hh : holdsLine s (.host t) = true) (hk : keptAtCut s t = some r') :
    (r'.settled = false → holdsLine u (.host t) = true ∧ (u.position t).kept = some r') ∧
      (r'.settled = true → holdsLine u (.host t) = false ∧ (u.position t).kept = none) := by
  rw [h.position, h.held, hh, hk]
  refine ⟨fun hs => ?_, fun hs => ?_⟩ <;> simp [hs, Option.filter]

theorem ResetLeaves.free (h : ResetLeaves s u) (hh : holdsLine s (.host t) = false) : cutRecords s t = [] ∧ (u.position t).kept = none := by
  rw [h.position, keptAtCut_free hh]
  exact ⟨cutRecords_free hh, rfl⟩

/-- Whoever holds a line after the reset is an orphan (R33). -/
theorem ResetLeaves.orphan (h : ResetLeaves s u) (hwork : holdsLine s (.host t) = true → ∃ r, requestAt s t = some r ∧ r.work ≠ none)
    (hu : holdsLine u (.host t) = true) : holderMark u t = .orphan := by
  have hh : holdsLine s (.host t) = true := by
    rw [h.held, Bool.and_eq_true] at hu
    exact hu.1
  obtain ⟨r, hr, hw⟩ := hwork hh
  have hk := keptAtCut_holder hh hr
  obtain ⟨hleft, hdone⟩ := h.kept hh hk
  have horphan := isOrphan_cut (unissuedPlanes s t) hw
  generalize (if r.isOrphan then r else r.cutOff (unissuedPlanes s t)) = r' at hk hleft hdone horphan
  cases hs : r'.settled with
  | true => rw [(hdone hs).1] at hu; cases hu
  | false =>
    unfold holderMark
    rw [(hleft hs).2]
    exact if_pos horphan

/-- An orphan of an earlier reset stays as it is (R61). -/
theorem ResetLeaves.orphan_stays (h : ResetLeaves s u) (hh : holdsLine s (.host t) = true) (hr : requestAt s t = some r)
    (ho : r.isOrphan = true) :
    cutRecords s t = [] ∧ (r.settled = false → (u.position t).kept = some r ∧ holdsLine u (.host t) = true) := by
  have hk := keptAtCut_holder hh hr
  rw [if_pos ho] at hk
  exact ⟨by rw [cutRecords_holder hh hr, if_pos ho], fun hs => ((h.kept hh hk).1 hs).symm⟩

/-- A WRITE's holder becomes an orphan (R60). -/
theorem ResetLeaves.write {w : WriteRec} (h : ResetLeaves s u) (hh : holdsLine s (.host t) = true) (hr : requestAt s t = some r)
    (hw : r.work = some (.write w)) (ho : w.orphan = false) :
    (lessPlanes w.outstanding (unissuedPlanes s t) ≠ 0 → holdsLine u (.host t) = true ∧
        (u.position t).kept = some { r with work := some (.write (w.cutOff (unissuedPlanes s t))) }) ∧
      (lessPlanes w.outstanding (unissuedPlanes s t) = 0 → holdsLine u (.host t) = false ∧ (u.position t).kept = none) ∧
      cutRecords s t = orphanRecords t r (unissuedPlanes s t) := by
  have hno : r.isOrphan = false := by unfold Request.isOrphan; rw [hw]; exact ho
  have hk := keptAtCut_holder hh hr
  have hcut : r.cutOff (unissuedPlanes s t) = { r with work := some (.write (w.cutOff (unissuedPlanes s t))) } := by
    unfold Request.cutOff
    rw [hw]
    rfl
  have hsettled : (r.cutOff (unissuedPlanes s t)).settled = (lessPlanes w.outstanding (unissuedPlanes s t) == 0) := by
    rw [hcut]
    rfl
  rw [if_neg (by simp [hno])] at hk
  obtain ⟨hleft, hdone⟩ := h.kept hh hk
  rw [hsettled, hcut] at hleft
  rw [hsettled] at hdone
  exact ⟨fun hne => hleft (beq_eq_false_iff_ne.mpr hne), fun h0 => hdone (beq_iff_eq.mpr h0),
    by rw [cutRecords_holder hh hr, if_neg (by simp [hno])]⟩

/-- A READ's holder becomes an orphan (R85). -/
theorem ResetLeaves.read {x : ReadRec} (h : ResetLeaves s u) (hh : holdsLine s (.host t) = true) (hr : requestAt s t = some r)
    (hw : r.work = some (.read x)) (ho : x.orphan = false) :
    (lessPlanes x.outstanding (unissuedPlanes s t) ≠ 0 ∨ lessPlanes x.repairsOut (unissuedPlanes s t) ≠ 0 →
        holdsLine u (.host t) = true ∧ (u.position t).kept = some { r with work := some (.read (x.cutOff (unissuedPlanes s t))) }) ∧
      (lessPlanes x.outstanding (unissuedPlanes s t) = 0 ∧ lessPlanes x.repairsOut (unissuedPlanes s t) = 0 →
        holdsLine u (.host t) = false ∧ (u.position t).kept = none) ∧
      cutRecords s t = orphanRecords t r (unissuedPlanes s t) := by
  have hno : r.isOrphan = false := by unfold Request.isOrphan; rw [hw]; exact ho
  have hk := keptAtCut_holder hh hr
  have hcut : r.cutOff (unissuedPlanes s t) = { r with work := some (.read (x.cutOff (unissuedPlanes s t))) } := by
    unfold Request.cutOff
    rw [hw]
    rfl
  have hsettled : (r.cutOff (unissuedPlanes s t)).settled =
      (lessPlanes x.outstanding (unissuedPlanes s t) == 0 && lessPlanes x.repairsOut (unissuedPlanes s t) == 0) := by
    rw [hcut]
    rfl
  rw [if_neg (by simp [hno])] at hk
  obtain ⟨hleft, hdone⟩ := h.kept hh hk
  rw [hsettled, hcut] at hleft
  rw [hsettled] at hdone
  refine ⟨fun hne => hleft ?_, fun ⟨h0, h1⟩ => hdone ?_, by rw [cutRecords_holder hh hr, if_neg (by simp [hno])]⟩
  · rw [Bool.and_eq_false_iff, beq_eq_false_iff_ne, beq_eq_false_iff_ne]
    exact hne
  · rw [Bool.and_eq_true, beq_iff_eq, beq_iff_eq]
    exact ⟨h0, h1⟩

end

theorem exec_hostChannelReset (s : State) (h : s.pins.hrstLow = false) :
    exec .hostChannelReset s = .next (resetHostChannel { s.quiet with pins := { s.pins with hrstLow := true } }) := by
  have hexec : exec .hostChannelReset s = .next (if s.quiet.pins.hrstLow then s.quiet
      else resetHostChannel { s.quiet with pins := { s.quiet.pins with hrstLow := true } }) := by
    show execHostChannelReset s = _
    unfold execHostChannelReset
    dsimp only
    split <;> rfl
  rw [hexec, show s.quiet.pins.hrstLow = false from h]
  rfl

/-- Settles O44: the channel is cut off tag by tag, the sweep claims granted start, and the drains are tested; none of it but the cut touches
the host's side. -/
theorem hostChannelReset : Obligations.HostChannelReset := by
  intro s hlow hwork unissued
  have hexec := exec_hostChannelReset s hlow
  have hleaves := resetHostChannel_leaves { s.quiet with pins := { s.pins with hrstLow := true } }
  have hquiet := resetHostChannel_quiet (s := { s.quiet with pins := { s.pins with hrstLow := true } })
  have hlog := resetHostChannel_log (s := { s.quiet with pins := { s.pins with hrstLow := true } })
  have hhost : ∀ t, holdsLine { s.quiet with pins := { s.pins with hrstLow := true } } (.host t) = holdsLine s (.host t) := fun _ => rfl
  have hat : ∀ t, requestAt { s.quiet with pins := { s.pins with hrstLow := true } } t = requestAt s t := fun _ => rfl
  have hports : ∀ p, ({ s.quiet with pins := { s.pins with hrstLow := true } } : State).port p = s.port p := fun _ => rfl
  have hplanes : ∀ p, ({ s.quiet with pins := { s.pins with hrstLow := true } } : State).plane p = s.plane p := fun _ => rfl
  have hpost := fun l => foldl_postRecord_congr (s := s) (t := { s.quiet with pins := { s.pins with hrstLow := true } }) l rfl rfl
  have hframe := hleaves.frame
  generalize hz : ({ s.quiet with pins := { s.pins with hrstLow := true } } : State) = z at *
  refine ⟨resetHostChannel z, hexec, ?pins, fun t => ⟨hleaves.tag t, ?heldBack, fun hu => ?orphan⟩, hleaves.responses, hleaves.assembly,
    hleaves.waits, fun p => ?port, ?service, ?regions, ?defaults, ?geometry, ?errorLimit, ?timeout, ?share, ?rotation, ?proto, ?mask, ?now,
    fun hd => ?mgmt, fun hw he => ?sweep, cutRecords z, fun hclean => ?log, fun t => ⟨fun hh => ?free, fun hh r hr => ⟨fun ho => ?earlier,
      fun w hw ho => ?write, fun x hx ho => ?read⟩⟩⟩
  case pins => rw [hframe, ← hz]
  case heldBack => rw [hleaves.position]
  case orphan => exact hleaves.orphan (fun hh => by rw [hat]; exact hwork t (hhost t ▸ hh)) hu
  case port =>
    obtain ⟨hlist, hgen, hqueue⟩ := hleaves.port p rfl
    rw [hports] at hgen hqueue
    refine ⟨hlist, hgen, hqueue, fun hw => ?_, fun hs hd => ?_⟩
    · rw [← hports]
      exact (hquiet (by rw [← hz]; exact hw)).1 p
    · rw [← hplanes]
      exact hleaves.plane p (by rw [hplanes]; exact hs) (by rw [hplanes]; exact hd)
  case service => rw [hframe, ← hz]; rfl
  case regions => rw [hframe, ← hz]; rfl
  case defaults => rw [hframe, ← hz]; rfl
  case geometry => rw [hframe, ← hz]; rfl
  case errorLimit => rw [hframe, ← hz]; rfl
  case timeout => rw [hframe, ← hz]; rfl
  case share => rw [hframe, ← hz]; rfl
  case rotation => rw [hframe, ← hz]; rfl
  case proto => rw [hframe, ← hz]; rfl
  case mask => rw [hframe, ← hz]; rfl
  case now => rw [hframe, ← hz]; rfl
  case mgmt =>
    rw [hleaves.mgmt fun p => by rw [hplanes]; exact hd p, ← hz]
    rfl
  case sweep =>
    have hsweep : z.sweep = s.sweep := by rw [← hz]; rfl
    obtain ⟨hsame, hplane⟩ := (hquiet (by rw [← hz]; exact hw)).2 (by rw [hsweep]; exact he)
    refine ⟨hsame.trans hsweep, fun p hp => ?_⟩
    rw [← hplanes]
    exact hplane p (by rw [hplanes]; exact hp)
  case log =>
    obtain ⟨hsuspects, hposted, hsticky⟩ := hlog (by rw [← hz]; exact hclean)
    obtain ⟨hl, hc⟩ := hpost (allTags.flatMap (cutRecords z))
    exact ⟨hsuspects.trans (by rw [← hz]; rfl), hposted.trans hl, hsticky.trans hc⟩
  case free => exact hleaves.free ((hhost t).trans hh)
  case earlier => exact hleaves.orphan_stays ((hhost t).trans hh) ((hat t).trans hr) ho
  case write =>
    obtain ⟨hleft, hdone, hrecords⟩ := hleaves.write ((hhost t).trans hh) ((hat t).trans hr) hw ho
    refine ⟨lessPlanes w.outstanding (unissuedPlanes z t), w.withdrawn ||| (w.outstanding &&& unissuedPlanes z t), fun q => ?_, fun q => ?_,
      hleft, hdone, ?_⟩
    · rw [inSet_lessPlanes_unissued, hports]
    · rw [inSet_or_unissued, hports]
    · rw [hrecords]
      unfold orphanRecords
      rw [hw]
      rfl
  case read =>
    obtain ⟨hleft, hdone, hrecords⟩ := hleaves.read ((hhost t).trans hh) ((hat t).trans hr) hx ho
    refine ⟨lessPlanes x.outstanding (unissuedPlanes z t), x.withdrawn ||| (x.outstanding &&& unissuedPlanes z t),
      lessPlanes x.repairsOut (unissuedPlanes z t), x.repairsOut &&& unissuedPlanes z t, fun q => ?_, fun q => ?_, fun q => ?_, fun q => ?_,
      hleft, hdone, ?_⟩
    · rw [inSet_lessPlanes_unissued, hports]
    · rw [inSet_or_unissued, hports]
    · rw [inSet_lessPlanes_unissued, hports]
    · rw [inSet_and_unissued, hports]
    · rw [hrecords]
      unfold orphanRecords
      rw [hx]
      dsimp only
      rw [postedKind_eq]
      rfl

end Sys2Proof.Machine
end
